-- ==== Sys2Proof/Word.lean ====
section
/-! DEFINITION. The words of the block: register bytes, host addresses and 16-bit counters (00_scope.md R8:
everything is unsigned). -/

namespace Sys2Proof

/-- One 8-bit register (10_state.md R23). -/
abbrev Byte := BitVec 8

/-- A host register address, `h_addr[4:0]` (10_state.md R20, 20_memory.md R60). -/
abbrev Addr := BitVec 5

/-- A tick count as the block's 16-bit counters and register pairs hold it (10_state.md R42, R29, R33). -/
abbrev Ticks := BitVec 16

end Sys2Proof
end

