-- ==== Sys2Proof/Syntax.lean ====
section
/-! DEFINITION. The names of the spec as types: bus levels, the eight commands, the host registers, and the field
codes of 30_encoding.md R85 to R89. A reserved code that "no rule produces" (R84) has no constructor (log 10). -/

namespace Sys2Proof

/-- A bus level (00_scope.md R4). -/
inductive Level where
  | passive
  | active
deriving DecidableEq, Repr, Inhabited

/-- The commands of CMD8, one per row of the opcode table (30_encoding.md R83). Every bit of a command is opcode
(R81, R91), so no constructor carries an operand. -/
inductive Instr where
  | nop
  | receive
  | transmit
  | abort
  | crcInit
  | crcBit
  | crcByte
  | classify
deriving DecidableEq, Repr

/-- The host registers by name (10_state.md R23). `buf i` is BUF0 to BUF11; `reserved` is 0x1C to 0x1F (R39). -/
inductive Reg where
  | ctrl
  | cmd
  | status
  | count
  | len
  | tmoL
  | tmoH
  | crc
  | crcData
  | crcOut
  | durL
  | durH
  | clsCfg
  | clsRes
  | state
  | errCause
  | buf (i : Fin 12)
  | reserved (i : Fin 4)
deriving DecidableEq, Repr

/-- STATUS.OP: the last accepted operation (10_state.md R26). -/
inductive Operation where
  | receive
  | transmit
deriving DecidableEq, Repr

/-- STATUS.RESULT (30_encoding.md R87); codes 6 and 7 are reserved. -/
inductive ResultCode where
  | none
  | ok
  | noData
  | busErr
  | dataErr
  | aborted
deriving DecidableEq, Repr

/-- ERRCAUSE (30_encoding.md R88); code 7 is reserved. -/
inductive Cause where
  | none
  | sofShort
  | sofLong
  | glitch
  | ambiguous
  | contention
  | txIdleTimeout
deriving DecidableEq, Repr

/-- CLS_RES.CAT (30_encoding.md R86); code 3 (Break) is reserved. -/
inductive Category where
  | invalid
  | short
  | long
  | sof
  | eod
  | eof
  | ifs
deriving DecidableEq, Repr

/-- STATE.PHASE (30_encoding.md R89); codes 9 to 15 are reserved. -/
inductive Phase where
  | idle
  | rxWaitIdle
  | rxWaitSof
  | rxSof
  | rxData
  | txWaitIdle
  | txSof
  | txData
  | txEof
deriving DecidableEq, Repr

/-- The classifier contexts of 30_encoding.md R85; code 3 is reserved and no context. -/
inductive Context where
  | data
  | sof
  | boundary
deriving DecidableEq, Repr

/-- One host operation of the program notation (30_encoding.md R92): `WR <reg>, <imm8>` or `RD <reg>`. -/
inductive HostOp where
  | wr (a : Addr) (v : Byte)
  | rd (a : Addr)
deriving DecidableEq, Repr

end Sys2Proof
end

