-- ==== Sys2Proof/Config.lean ====
section
/-! DEFINITION. What is fixed when the block is elaborated (00_scope.md R5), what the environment presents in one
cycle (10_state.md R20), and the free values (log 2). -/

namespace Sys2Proof

/-- The elaboration-time parameters of 00_scope.md R5, in the order of its table. Durations are in ticks. -/
structure Params where
  tickUs     : Nat
  timerW     : Nat
  maxBytes   : Nat
  rxShortMin : Nat
  rxShortLim : Nat
  rxLongMin  : Nat
  rxLongLim  : Nat
  rxEodMin   : Nat
  rxSofMin   : Nat
  rxSofMax   : Nat
  rxEofMin   : Nat
  rxIfsMin   : Nat
  txShort    : Nat
  txLong     : Nat
  txSof      : Nat
  txEof      : Nat
  txIdleCeil : Nat
  /-- The reset value of the 16-bit register pair TMO. -/
  tmoReset   : Ticks
deriving DecidableEq, Repr

/-- The defaults of 00_scope.md R5. -/
def Config.defaults : Params where
  tickUs     := 1
  timerW     := 16
  maxBytes   := 12
  rxShortMin := 34
  rxShortLim := 96
  rxLongMin  := 96
  rxLongLim  := 163
  rxEodMin   := 163
  rxSofMin   := 123
  rxSofMax   := 279
  rxEofMin   := 239
  rxIfsMin   := 280
  txShort    := 64
  txLong     := 128
  txSof      := 200
  txEof      := 280
  txIdleCeil := 65535
  tmoReset   := 300#16

/-- What the environment does in one clock cycle: the input ports of 10_state.md R20, with `bus_in` given by its
external part `ext` (10_state.md R22: the bus environment "supplies the external part of the line level of each tick").
A read presents `addr` with `we = false`. -/
structure CycleInput where
  rst   : Bool
  tick  : Bool
  ext   : Level
  addr  : Addr
  we    : Bool
  wdata : Byte
deriving DecidableEq, Repr, Inhabited

/-- FREE VALUE (log 2): what the host, the timer source and the bus do in a cycle that nothing is queued for. The
argument is State's counter of the free inputs drawn so far. It has no body: no proof can see what it is. -/
opaque Config.freeInput : Nat → CycleInput

end Sys2Proof
end

