-- ==== Sys2Proof/WellFormed.lean ====
section
/-! DEFINITION. Well-formed terms: parameter sets (00_scope.md R6, R7) and instructions. -/

namespace Sys2Proof

/-- The receive windows are ordered: the first clause of 00_scope.md R6. -/
abbrev Params.WindowsOrdered (p : Params) : Prop :=
  1 ≤ p.rxShortMin ∧ p.rxShortMin ≤ p.rxShortLim ∧ p.rxShortLim ≤ p.rxLongMin ∧ p.rxLongMin ≤ p.rxLongLim ∧
    p.rxLongLim ≤ p.rxEodMin ∧ p.rxEodMin ≤ p.rxEofMin ∧ p.rxEofMin ≤ p.rxIfsMin ∧ p.rxIfsMin ≤ 0xFFFF

/-- The SOF window: the second clause of 00_scope.md R6. -/
abbrev Params.SofOrdered (p : Params) : Prop :=
  1 ≤ p.rxSofMin ∧ p.rxSofMin ≤ p.rxSofMax ∧ p.rxSofMax < 0xFFFF

/-- The transmit lengths: the third clause of 00_scope.md R6. -/
abbrev Params.TxInRange (p : Params) : Prop :=
  (1 ≤ p.txShort ∧ p.txShort ≤ 0xFFFF) ∧ (1 ≤ p.txLong ∧ p.txLong ≤ 0xFFFF) ∧ (1 ≤ p.txSof ∧ p.txSof ≤ 0xFFFF) ∧
    (1 ≤ p.txEof ∧ p.txEof ≤ 0xFFFF) ∧ (1 ≤ p.txIdleCeil ∧ p.txIdleCeil ≤ 0xFFFF)

/-- The widths the register layouts depend on: the fourth clause of 00_scope.md R6. -/
abbrev Params.WidthsFixed (p : Params) : Prop :=
  p.maxBytes = 12 ∧ p.timerW = 16

/-- A legal parameter set (00_scope.md R6). -/
abbrev Params.Legal (p : Params) : Prop :=
  p.WindowsOrdered ∧ p.SofOrdered ∧ p.TxInRange ∧ p.WidthsFixed

/-- A round-trip-safe parameter set: what 00_scope.md R7 asks beyond R6. -/
abbrev Params.RoundTripSafe (p : Params) : Prop :=
  (p.rxShortMin ≤ p.txShort ∧ p.txShort < p.rxShortLim) ∧ (p.rxLongMin ≤ p.txLong ∧ p.txLong < p.rxLongLim) ∧
    (p.rxSofMin ≤ p.txSof ∧ p.txSof ≤ p.rxSofMax) ∧ p.rxEodMin ≤ p.txEof

/-- A command has no operand fields (30_encoding.md R91), so every instruction is well formed. -/
def Instr.wf : Instr → Bool
  | .nop => true
  | .receive => true
  | .transmit => true
  | .abort => true
  | .crcInit => true
  | .crcBit => true
  | .crcByte => true
  | .classify => true

end Sys2Proof
end

