-- ==== Sys2Proof/Decode.lean ====
section
/-! DEFINITION. Bits to names and back: levels, the CMD8 opcode map, the register map and the field codes
(30_encoding.md R80 to R91, 10_state.md R23). -/

namespace Sys2Proof

/-! ### Levels (30_encoding.md R90) -/

/-- Active = 1, Passive = 0. -/
def Level.toBool : Level → Bool
  | .passive => false
  | .active => true

/-- The level a bit stands for. -/
def Level.ofBool : Bool → Level
  | false => .passive
  | true => .active

/-- `NOT` of a level (43_transmitter.md R184, "alternate polarity strictly"). -/
def Level.not : Level → Level
  | .passive => .active
  | .active => .passive

/-- One bit as a one-bit field. -/
def Level.bit (l : Level) : BitVec 1 := BitVec.ofBool l.toBool

/-! ### The opcode map (30_encoding.md R83) -/

/-- Why a command byte is no command. -/
inductive DecodeError where
  /-- Opcodes 0x08 to 0xFF (30_encoding.md R84). -/
  | reservedOpcode (op : Byte)
deriving DecidableEq, Repr

/-- The command decoder: the whole byte is matched (30_encoding.md R83, 45_control.md R234). -/
def decode (op : Byte) : Except DecodeError Instr :=
  match op.toNat with
  | 0 => .ok .nop
  | 1 => .ok .receive
  | 2 => .ok .transmit
  | 3 => .ok .abort
  | 4 => .ok .crcInit
  | 5 => .ok .crcBit
  | 6 => .ok .crcByte
  | 7 => .ok .classify
  | _ => .error (.reservedOpcode op)

/-- The opcode of a command (30_encoding.md R83). -/
def encode : Instr → Byte
  | .nop => 0x00#8
  | .receive => 0x01#8
  | .transmit => 0x02#8
  | .abort => 0x03#8
  | .crcInit => 0x04#8
  | .crcBit => 0x05#8
  | .crcByte => 0x06#8
  | .classify => 0x07#8

/-- The instruction the decoder reads from the bits of one opcode-table row. A command is exactly one byte
(30_encoding.md R81); the bits above `nbits` are 0, and no row is wider (log 19). -/
def decodeTableWord (nbits w : Nat) : Option Instr :=
  if nbits ≤ 8 then
    match decode (BitVec.ofNat 8 (w % 2 ^ nbits)) with
    | .ok i => some i
    | .error _ => none
  else none

/-! ### The register map (10_state.md R23) -/

/-- The address of BUF0 (10_state.md R38). -/
def bufBase : Nat := 0x10

/-- The number of BUF registers (10_state.md R23). -/
def bufSize : Nat := 12

/-- The address of the first reserved register (10_state.md R39). -/
def reservedBase : Nat := 0x1C

/-- The register at a host address (10_state.md R23, R39). -/
def Reg.ofAddr (a : Addr) : Reg :=
  match a.toNat with
  | 0x00 => .ctrl
  | 0x01 => .cmd
  | 0x02 => .status
  | 0x03 => .count
  | 0x04 => .len
  | 0x05 => .tmoL
  | 0x06 => .tmoH
  | 0x07 => .crc
  | 0x08 => .crcData
  | 0x09 => .crcOut
  | 0x0A => .durL
  | 0x0B => .durH
  | 0x0C => .clsCfg
  | 0x0D => .clsRes
  | 0x0E => .state
  | 0x0F => .errCause
  | n => if n < reservedBase then .buf (Fin.ofNat 12 (n - bufBase)) else .reserved (Fin.ofNat 4 (n - reservedBase))

/-- The host address of a register (10_state.md R23). -/
def Reg.addr : Reg → Addr
  | .ctrl => 0x00#5
  | .cmd => 0x01#5
  | .status => 0x02#5
  | .count => 0x03#5
  | .len => 0x04#5
  | .tmoL => 0x05#5
  | .tmoH => 0x06#5
  | .crc => 0x07#5
  | .crcData => 0x08#5
  | .crcOut => 0x09#5
  | .durL => 0x0A#5
  | .durH => 0x0B#5
  | .clsCfg => 0x0C#5
  | .clsRes => 0x0D#5
  | .state => 0x0E#5
  | .errCause => 0x0F#5
  | .buf i => BitVec.ofNat 5 (bufBase + i.val)
  | .reserved i => BitVec.ofNat 5 (reservedBase + i.val)

/-! ### Field codes (30_encoding.md R85 to R89, 10_state.md R26) -/

/-- STATUS.OP: 0 RECEIVE, 1 TRANSMIT (10_state.md R26). -/
def Operation.code : Operation → BitVec 1
  | .receive => 0#1
  | .transmit => 1#1

/-- STATUS.RESULT (30_encoding.md R87). -/
def ResultCode.code : ResultCode → BitVec 3
  | .none => 0#3
  | .ok => 1#3
  | .noData => 2#3
  | .busErr => 3#3
  | .dataErr => 4#3
  | .aborted => 5#3

/-- ERRCAUSE[2:0] (30_encoding.md R88). -/
def Cause.code : Cause → BitVec 3
  | .none => 0#3
  | .sofShort => 1#3
  | .sofLong => 2#3
  | .glitch => 3#3
  | .ambiguous => 4#3
  | .contention => 5#3
  | .txIdleTimeout => 6#3

/-- CLS_RES.CAT (30_encoding.md R86). -/
def Category.code : Category → BitVec 3
  | .invalid => 0#3
  | .short => 1#3
  | .long => 2#3
  | .sof => 4#3
  | .eod => 5#3
  | .eof => 6#3
  | .ifs => 7#3

/-- STATE.PHASE (30_encoding.md R89). -/
def Phase.code : Phase → BitVec 4
  | .idle => 0#4
  | .rxWaitIdle => 1#4
  | .rxWaitSof => 2#4
  | .rxSof => 3#4
  | .rxData => 4#4
  | .txWaitIdle => 5#4
  | .txSof => 6#4
  | .txData => 7#4
  | .txEof => 8#4

/-- CLS_CFG.CTX (30_encoding.md R85): code 3 is reserved. -/
def Context.ofCode (c : BitVec 2) : Option Context :=
  match c.toNat with
  | 0 => some .data
  | 1 => some .sof
  | 2 => some .boundary
  | _ => none

end Sys2Proof
end

