-- ==== Sys2Proof/Machine/State.lean ====
section
/-! DEFINITION. The state of the block (10_state.md R24 to R44), its reset value (R45), and the ways a step can stop.
INVENTORY.md lists every field with its rule. -/

namespace Sys2Proof.Machine

/-- Addressable bytes: (address, byte) pairs in one canonical form (`Memory.wf`, Ops.lean; log 9). -/
abbrev Memory := List Host.Cell

/-- The block has no trap and no fault (60_exceptions.md R264): nothing raises one, so there is no constructor
(log 18). -/
inductive Fault where
deriving DecidableEq, Repr

/-- Why the model gives no next state. -/
inductive Refusal where
  /-- An instruction that has no meaning yet: raised by `exec` alone. Safe: nothing follows from it. -/
  | notModelled (mnemonic : String)
  /-- The parameter set breaks 00_scope.md R6 ("A model refuses an illegal set"): raised by `step` alone. Safe: an
  illegal set "has no meaning in the document" (92 D36). -/
  | illegalParameters
deriving DecidableEq, Repr

/-- The block's registers and hidden state, and the model's own fields for what surrounds it. -/
structure State where
  /-- The model's own field: the elaboration-time parameters (00_scope.md R5). No step writes it (log 3). -/
  params  : Params
  /-- CTRL.STRICT (10_state.md R24). -/
  strict  : Bool
  /-- CTRL.IE (10_state.md R24). -/
  ie      : Bool
  /-- STATUS.BUSY (10_state.md R26). -/
  busy    : Bool
  /-- STATUS.DONE (10_state.md R26). -/
  done    : Bool
  /-- STATUS.RESULT (10_state.md R26). -/
  result  : ResultCode
  /-- STATUS.OP (10_state.md R26). -/
  op      : Operation
  /-- STATUS.REJ (10_state.md R26). -/
  rej     : Bool
  /-- STATUS.LINE (10_state.md R26). -/
  line    : Level
  /-- COUNT.BYTES (10_state.md R27). -/
  bytes   : BitVec 4
  /-- COUNT.BITS (10_state.md R27). -/
  bits    : BitVec 3
  /-- LEN (10_state.md R28). -/
  len     : Byte
  /-- TMO_L (10_state.md R29). -/
  tmoL    : Byte
  /-- TMO_H (10_state.md R29). -/
  tmoH    : Byte
  /-- CRC (10_state.md R30). -/
  crc     : Byte
  /-- CRC_DATA (10_state.md R31). -/
  crcData : Byte
  /-- DUR_L (10_state.md R33). -/
  durL    : Byte
  /-- DUR_H (10_state.md R33). -/
  durH    : Byte
  /-- CLS_CFG.CTX (10_state.md R34); the reserved code 3 is stored. -/
  clsCtx  : BitVec 2
  /-- CLS_CFG.POL (10_state.md R34). -/
  clsPol  : Level
  /-- CLS_RES.CAT (10_state.md R35). -/
  clsCat  : Category
  /-- CLS_RES.BIT (10_state.md R35). -/
  clsBit  : Bool
  /-- CLS_RES.BERR (10_state.md R35). -/
  clsBerr : Bool
  /-- STATE.PHASE (10_state.md R36). -/
  phase   : Phase
  /-- STATE.DRIVE (10_state.md R36). -/
  drive   : Level
  /-- ERRCAUSE (10_state.md R37). -/
  cause   : Cause
  /-- BUF0 to BUF11, at the host addresses 0x10 to 0x1B (10_state.md R38). -/
  buf     : Memory
  /-- SYM_TMR (10_state.md R42). -/
  symTmr  : Ticks
  /-- WAIT_TMR (10_state.md R42). -/
  waitTmr : Ticks
  /-- LAST (10_state.md R43). -/
  last    : Level
  /-- SHIFT (10_state.md R43). -/
  shift   : Byte
  /-- TXPOL (10_state.md R44). -/
  txPol   : Level
  /-- TXN (10_state.md R44). -/
  txN     : Ticks
  /-- The model's own field: what the environment does in the coming cycles, the next cycle first (log 1). -/
  inputs  : List CycleInput
  /-- The model's own field: how many free inputs have been drawn (log 2). -/
  freeIdx : Nat
deriving DecidableEq, Repr

/-- The reset state of 10_state.md R45 under a parameter set, with the environment's fields as given. -/
def State.resetWith (p : Params) (inputs : List CycleInput) (freeIdx : Nat) : State where
  params  := p
  strict  := false
  ie      := false
  busy    := false
  done    := false
  result  := .none
  op      := .receive
  rej     := false
  line    := .passive
  bytes   := 0#4
  bits    := 0#3
  len     := 0x00#8
  tmoL    := p.tmoReset.extractLsb' 0 8
  tmoH    := p.tmoReset.extractLsb' 8 8
  crc     := 0xFF#8
  crcData := 0x00#8
  durL    := 0x00#8
  durH    := 0x00#8
  clsCtx  := 0#2
  clsPol  := .passive
  clsCat  := .invalid
  clsBit  := false
  clsBerr := false
  phase   := .idle
  drive   := .passive
  cause   := .none
  buf     := []
  symTmr  := 0#16
  waitTmr := 0#16
  last    := .passive
  shift   := 0x00#8
  txPol   := .passive
  txN     := 0#16
  inputs  := inputs
  freeIdx := freeIdx

/-- The machine right after reset: 10_state.md R45 with the default parameters of 00_scope.md R5 and nothing queued
(log 1, 2, 3, 8). -/
def State.reset : State := State.resetWith Config.defaults [] 0

end Sys2Proof.Machine
end

