-- ==== Sys2Proof/Machine/Ops.lean ====
section
/-! DEFINITION. The shared operations: the frame buffer, the saturating counters, the bus line, `finish` (the one way an
operation ends), operation acceptance, refusal and the busy guard. -/

namespace Sys2Proof.Machine

/-! ### Memory in canonical form -/

/-- What an unlisted address reads as: the reset contents of BUF (10_state.md R45; log 9). -/
def Memory.unlisted : Byte := 0x00#8

/-- The byte at an address. -/
def Memory.read : Memory → Nat → Byte
  | [], _ => Memory.unlisted
  | (b, w) :: m, a => if b = a then w else Memory.read m a

/-- Writes one byte and keeps the canonical form: a byte equal to what an unlisted address reads as is not listed. -/
def Memory.write : Memory → Nat → Byte → Memory
  | [], a, v => if v = Memory.unlisted then [] else [(a, v)]
  | (b, w) :: m, a, v =>
    if b < a then (b, w) :: Memory.write m a v
    else
      let rest := if b = a then m else (b, w) :: m
      if v = Memory.unlisted then rest else (a, v) :: rest

/-- The canonical form from address `lo` on: addresses strictly rising, no entry that an unlisted address reads as. -/
def Memory.wfFrom : Nat → Memory → Bool
  | _, [] => true
  | lo, (a, v) :: m => decide (lo ≤ a) && (decide (v ≠ Memory.unlisted) && Memory.wfFrom (a + 1) m)

/-- The canonical form of the frame buffer: from BUF0 on, strictly rising, and nothing beyond BUF11. -/
def Memory.wf (m : Memory) : Bool :=
  Memory.wfFrom bufBase m && m.all (fun c => decide (c.1 < reservedBase))

/-- `BUF[i]`, for i = 0..11 (10_state.md R38). There is no other `BUF[i]`: an index of 12 or more, which no reachable
state uses (45_control.md R242), reads what an unlisted address reads as (log 9). -/
def bufRead (s : State) (i : Nat) : Byte := Memory.read s.buf (bufBase + i)

/-- `BUF[i] <- v`, for i = 0..11 (10_state.md R38); an index of 12 or more writes nothing (log 9). -/
def bufWrite (s : State) (i : Nat) (v : Byte) : State :=
  if i < bufSize then { s with buf := Memory.write s.buf (bufBase + i) v } else s

/-! ### Counters -/

/-- `sat16(v)` (00_scope.md R9, R10). -/
def sat16 (v : Nat) : Ticks := BitVec.ofNat 16 (min v 0xFFFF)

/-- `sat16(x + 1)`, the only advance of a counter (00_scope.md R10, 40_classifier.md R100). -/
def advance (x : Ticks) : Ticks := sat16 (x.toNat + 1)

/-! ### The bus line -/

/-- The resolved bus level (00_scope.md R4, 92 D21): Active when an external agent or any node drives Active. -/
def busLevel (ext : Level) (drives : List Level) : Level :=
  if ext = .active ∨ .active ∈ drives then .active else .passive

/-- STATUS.LINE takes the sample of the tick (45_control.md R231). -/
def sampleLine (s : State) (lv : Level) : State := { s with line := lv }

/-! ### Outcomes -/

/-- `finish(r, c)` (00_scope.md R11): ends the operation in flight. The block's one shared operation for an error; it
saves nothing, switches no mode and transfers control nowhere (60_exceptions.md R264). -/
def finish (r : ResultCode) (c : Cause) (s : State) : State :=
  { s with busy := false, done := true, result := r, cause := c, phase := .idle, drive := .passive }

/-- `raise NoData()` (00_scope.md R9). -/
def raiseNoData (s : State) : State := finish .noData .none s

/-- `raise BusError(c)` (00_scope.md R9). -/
def raiseBusError (c : Cause) (s : State) : State := finish .busErr c s

/-- `raise DataError()`: TRANSMIT's completion with no operation in flight (00_scope.md R11, 43_transmitter.md R180). -/
def raiseDataError (s : State) : State := { s with done := true, result := .dataErr }

/-- A refusal: `STATUS.REJ <- 1` and nothing else (60_exceptions.md R263). -/
def reject (s : State) : State := { s with rej := true }

/-- What RECEIVE and TRANSMIT both write once BUSY is 0 (42_receiver.md R150, 43_transmitter.md R180). -/
def claim (o : Operation) (s : State) : State :=
  { s with op := o, cause := .none, bytes := 0#4, bits := 0#3 }

/-- What RECEIVE and TRANSMIT both write to put the operation in flight (42_receiver.md R150, 43_transmitter.md R180). -/
def launch (p : Phase) (s : State) : State :=
  { s with busy := true, done := false, result := .none, symTmr := 0#16, waitTmr := 0#16, phase := p }

/-- `busyGuard()` before a register write (45_control.md R239, 10_state.md R40). -/
def busyGuard (write : State → State) (s : State) : State :=
  if s.busy then reject s else write s

/-- Reset (70_reset_and_hazards.md R290): every register and all hidden state as 10_state.md R45 says. The parameters
and the environment's queue are not the block's to reset (log 7). -/
def resetBlock (s : State) : State := State.resetWith s.params s.inputs s.freeIdx

end Sys2Proof.Machine
end

