-- ==== Sys2Proof/Machine/Operands.lean ====
section
/-! DEFINITION. Operand assembly (30_encoding.md R82): every operand a command reads, from the registers that hold it. -/

namespace Sys2Proof.Machine

/-- A 16-bit register pair, low byte at the lower address (20_memory.md R63). -/
def pair (hi lo : Byte) : Ticks := hi ++ lo

/-- `TMO = {TMO_H, TMO_L}` (10_state.md R29). -/
def tmo (s : State) : Ticks := pair s.tmoH s.tmoL

/-- `DUR = {DUR_H, DUR_L}` (10_state.md R33). -/
def dur (s : State) : Ticks := pair s.durH s.durL

/-- TRANSMIT's length check: LEN in 1..MAX_BYTES (10_state.md R28, 43_transmitter.md R180). -/
def lenLegal (s : State) : Bool := decide (1 ≤ s.len.toNat) && decide (s.len.toNat ≤ s.params.maxBytes)

/-- `BUF[i][7 - j]`, the bit TRANSMIT sends when bit j of byte i is started (30_encoding.md R82, 20_memory.md R62). -/
def bufBit (s : State) (i j : Nat) : Bool := (bufRead s i).getLsbD (7 - j)

/-- `CRC_DATA[i]` (30_encoding.md R82). -/
def crcDataBit (s : State) (i : Nat) : Bool := s.crcData.getLsbD i

/-- `zext_8` of one bit (00_scope.md R9). -/
def zextBit (b : Bool) : Byte := if b then 0x01#8 else 0x00#8

/-- `((v << 1) OR zext_8(b))[7:0]`, how a bit enters SHIFT (41_symbol_decoder.md R132) and CRC (44_crc8.md R210). -/
def shiftIn (v : Byte) (b : Bool) : Byte := (v <<< 1) ||| zextBit b

end Sys2Proof.Machine
end

