-- ==== Sys2Proof/Machine/Flags.lean ====
section
/-! DEFINITION. The status flags (10_state.md R47), how the packed registers read, and the write-1-to-clear rule. -/

namespace Sys2Proof.Machine

/-- CTRL reads `{000000, IE, STRICT}` (45_control.md R232). -/
def ctrlByte (s : State) : Byte := 0#6 ++ BitVec.ofBool s.ie ++ BitVec.ofBool s.strict

/-- STATUS reads `{LINE, REJ, OP, RESULT[2:0], DONE, BUSY}` (45_control.md R232). -/
def statusByte (s : State) : Byte :=
  s.line.bit ++ BitVec.ofBool s.rej ++ s.op.code ++ s.result.code ++ BitVec.ofBool s.done ++ BitVec.ofBool s.busy

/-- COUNT reads `{0, BITS[2:0], BYTES[3:0]}` (45_control.md R232). -/
def countByte (s : State) : Byte := 0#1 ++ s.bits ++ s.bytes

/-- CLS_CFG reads `{00000, POL, CTX[1:0]}` (45_control.md R232). -/
def clsCfgByte (s : State) : Byte := 0#5 ++ s.clsPol.bit ++ s.clsCtx

/-- CLS_RES reads `{000, BERR, BIT, CAT[2:0]}` (45_control.md R232). -/
def clsResByte (s : State) : Byte :=
  0#3 ++ BitVec.ofBool s.clsBerr ++ BitVec.ofBool s.clsBit ++ s.clsCat.code

/-- STATE reads `{000, DRIVE, PHASE[3:0]}` (45_control.md R232). -/
def stateByte (s : State) : Byte := 0#3 ++ s.drive.bit ++ s.phase.code

/-- ERRCAUSE reads `{00000, ERRCAUSE[2:0]}` (45_control.md R232). -/
def errCauseByte (s : State) : Byte := 0#5 ++ s.cause.code

/-- `irq = STATUS.DONE AND CTRL.IE` (60_exceptions.md R266). -/
def irq (s : State) : Bool := s.done && s.ie

/-- `statusW1C(S0, v)` (45_control.md R238): a bit is cleared only if it was 1 at the start of the cycle. -/
def statusW1C (s0 : State) (v : Byte) (s : State) : State :=
  { s with
    done := if v.getLsbD 1 && s0.done then false else s.done
    rej := if v.getLsbD 6 && s0.rej then false else s.rej }

end Sys2Proof.Machine
end

