-- ==== Sys2Proof/Machine/Classifier.lean ====
section
/-! DEFINITION. The timing classifier (40_classifier.md), the bit decision (41_symbol_decoder.md R130, R131) and the
CLASSIFY command. -/

namespace Sys2Proof.Machine

/-- What `classifyData` answers (40_classifier.md R104); glitch and ambig are both category Invalid. -/
inductive DataClass where
  | glitch
  | short
  | long
  | eod
  | ambig
deriving DecidableEq, Repr

/-- What `classifySof` answers (40_classifier.md R105); both failures are category Invalid. -/
inductive SofClass where
  | tooShort
  | sof
  | tooLong
deriving DecidableEq, Repr

/-- `classifyData(d)` (40_classifier.md R104). -/
def classifyData (p : Params) (d : Ticks) : DataClass :=
  if d.toNat < p.rxShortMin then .glitch
  else if d.toNat < p.rxShortLim then .short
  else if p.rxLongMin ≤ d.toNat ∧ d.toNat < p.rxLongLim then .long
  else if p.rxEodMin ≤ d.toNat then .eod
  else .ambig

/-- `classifySof(d)` (40_classifier.md R105). -/
def classifySof (p : Params) (d : Ticks) : SofClass :=
  if d.toNat < p.rxSofMin then .tooShort
  else if p.rxSofMax < d.toNat then .tooLong
  else .sof

/-- `classifyBoundary(d)` (40_classifier.md R106). -/
def classifyBoundary (p : Params) (d : Ticks) : Category :=
  if d.toNat < p.rxEodMin then .invalid
  else if d.toNat < p.rxEofMin then .eod
  else if d.toNat < p.rxIfsMin then .eof
  else .ifs

/-- `bitOf(Short, pol)`: 1 exactly when Active (41_symbol_decoder.md R130). -/
def bitOfShort : Level → Bool
  | .active => true
  | .passive => false

/-- `bitOf(Long, pol)`: 1 exactly when Passive (41_symbol_decoder.md R130). -/
def bitOfLong : Level → Bool
  | .active => false
  | .passive => true

/-- What `decodeSymbol` answers: category, bit, error flag and cause (41_symbol_decoder.md R131). -/
structure SymbolDecision where
  cat   : Category
  bit   : Bool
  berr  : Bool
  cause : Cause
deriving DecidableEq, Repr

/-- `decodeSymbol(d, pol, strict)` (41_symbol_decoder.md R131). -/
def decodeSymbol (p : Params) (d : Ticks) (pol : Level) (strict : Bool) : SymbolDecision :=
  match classifyData p d with
  | .glitch => { cat := .invalid, bit := false, berr := true, cause := .glitch }
  | .short => { cat := .short, bit := bitOfShort pol, berr := false, cause := .none }
  | .long => { cat := .long, bit := bitOfLong pol, berr := false, cause := .none }
  | .eod => { cat := .eod, bit := false, berr := false, cause := .none }
  | .ambig =>
    if strict then { cat := .invalid, bit := false, berr := true, cause := .ambiguous }
    else { cat := .invalid, bit := false, berr := false, cause := .none }

/-- CLS_RES takes a result (40_classifier.md R108). -/
def setClsRes (cat : Category) (bit berr : Bool) (s : State) : State :=
  { s with clsCat := cat, clsBit := bit, clsBerr := berr }

/-- CLASSIFY in the DATA context (40_classifier.md R108). -/
def classifyInData (s : State) : State :=
  let r := decodeSymbol s.params (dur s) s.clsPol s.strict
  setClsRes r.cat r.bit r.berr s

/-- CLASSIFY in the SOF context (40_classifier.md R108). -/
def classifyInSof (s : State) : State :=
  match classifySof s.params (dur s) with
  | .sof => setClsRes .sof false false s
  | .tooShort => setClsRes .invalid false true s
  | .tooLong => setClsRes .invalid false true s

/-- CLASSIFY in the BOUNDARY context (40_classifier.md R108). -/
def classifyInBoundary (s : State) : State :=
  setClsRes (classifyBoundary s.params (dur s)) false false s

/-- CLASSIFY, opcode 0x07 (40_classifier.md R108): CTX = 3 is refused by REJ and leaves CLS_RES. -/
def execClassify (s : State) : Host.Outcome State Fault Refusal :=
  match Context.ofCode s.clsCtx with
  | some .data => .next (classifyInData s)
  | some .sof => .next (classifyInSof s)
  | some .boundary => .next (classifyInBoundary s)
  | none => .next (reject s)

end Sys2Proof.Machine
end

