-- ==== Sys2Proof/Machine/Receiver.lean ====
section
/-! DEFINITION. The frame receiver (42_receiver.md): RECEIVE and the tick rules of its four phases; the bit accumulator
(41_symbol_decoder.md R132, R133). Each tick rule reads the state at the start of the phase (00_scope.md R9). -/

namespace Sys2Proof.Machine

/-- RECEIVE, opcode 0x01 (42_receiver.md R150). -/
def execReceive (s : State) : Host.Outcome State Fault Refusal :=
  if s.busy then .next (reject s)
  else .next { launch .rxWaitIdle (claim .receive s) with shift := 0x00#8, last := .passive }

/-- WaitIdle (42_receiver.md R151): the timeout before the line (92 D12). -/
def rxWaitIdleTick (lv : Level) (s : State) : State :=
  let w := advance s.waitTmr
  let s1 := { s with waitTmr := w }
  if (tmo s).toNat ≤ w.toNat then raiseNoData s1
  else if lv = .active then { s1 with symTmr := 0#16 }
  else
    let t := advance s.symTmr
    let s2 := { s1 with symTmr := t }
    if s.params.rxIfsMin ≤ t.toNat then { s2 with phase := .rxWaitSof } else s2

/-- The wait for the first Active sample (42_receiver.md R152): an Active sample before the timeout (92 D12). -/
def rxWaitSofTick (lv : Level) (s : State) : State :=
  let w := advance s.waitTmr
  let s1 := { s with waitTmr := w }
  if lv = .active then { s1 with phase := .rxSof, symTmr := 1#16 }
  else if (tmo s).toNat ≤ w.toNat then raiseNoData s1
  else s1

/-- The SOF pulse (42_receiver.md R153). -/
def rxSofTick (lv : Level) (s : State) : State :=
  if lv = .active then
    let t := advance s.symTmr
    let s1 := { s with symTmr := t }
    if s.params.rxSofMax < t.toNat then raiseBusError .sofLong s1 else s1
  else if s.symTmr.toNat < s.params.rxSofMin then raiseBusError .sofShort s
  else { s with last := lv, symTmr := 1#16, phase := .rxData }

/-- DecodingBit without a transition (42_receiver.md R154): a run into the EOD window ends the frame. -/
def rxHoldTick (s : State) : State :=
  let t := advance s.symTmr
  let s1 := { s with symTmr := t }
  if s.params.rxEodMin ≤ t.toNat then finish .ok .none s1 else s1

/-- `accumulate(b)` and byte completion (41_symbol_decoder.md R132, R133). -/
def accumulate (b : Bool) (s : State) : State :=
  let v := shiftIn s.shift b
  let n := s.bits.toNat + 1
  if n = 8 then
    { bufWrite s s.bytes.toNat v with shift := v, bytes := s.bytes + 1#4, bits := 0#3 }
  else { s with shift := v, bits := BitVec.ofNat 3 n }

/-- After a byte completes, MAX_BYTES bytes end the frame (42_receiver.md R156). COUNT.BITS is 0 exactly when the bit
just accumulated completed a byte. -/
def rxFrameFull (s : State) : State :=
  if s.bits = 0#3 ∧ s.bytes.toNat = s.params.maxBytes then finish .ok .none s else s

/-- DecodingBit at a transition (42_receiver.md R155, then R156). -/
def rxTransitionTick (lv : Level) (s : State) : State :=
  let r := decodeSymbol s.params s.symTmr s.last s.strict
  if r.berr then raiseBusError r.cause s
  else rxFrameFull { accumulate r.bit s with last := lv, symTmr := 1#16 }

/-- DecodingBit (45_control.md R231). -/
def rxDataTick (lv : Level) (s : State) : State :=
  if lv = s.last then rxHoldTick s else rxTransitionTick lv s

end Sys2Proof.Machine
end

