-- ==== Sys2Proof/Machine/Transmitter.lean ====
section
/-! DEFINITION. The frame transmitter and its contention detector (43_transmitter.md): TRANSMIT and the tick rules of its
four phases. Each tick rule reads the state at the start of the phase (00_scope.md R9). -/

namespace Sys2Proof.Machine

/-- TRANSMIT, opcode 0x02 (43_transmitter.md R180): BUSY is tested before LEN (60_exceptions.md R267). -/
def execTransmit (s : State) : Host.Outcome State Fault Refusal :=
  if s.busy then .next (reject s)
  else if lenLegal s then .next (launch .txWaitIdle (claim .transmit s))
  else .next (raiseDataError (claim .transmit s))

/-- `dur(b, pol)`, the length of the symbol that encodes `b` with polarity `pol` (43_transmitter.md R181). -/
def symbolDur (p : Params) (b : Bool) (pol : Level) : Nat :=
  match b, pol with
  | true, .active => p.txShort
  | true, .passive => p.txLong
  | false, .active => p.txLong
  | false, .passive => p.txShort

/-- `startSymbol(pol)` (43_transmitter.md R186), on COUNT as the same tick phase has just left it. -/
def startSymbol (pol : Level) (s : State) : State :=
  let b := bufBit s s.bytes.toNat s.bits.toNat
  { s with txPol := pol, txN := BitVec.ofNat 16 (symbolDur s.params b pol), drive := pol, symTmr := 0#16 }

/-- The idle wait (43_transmitter.md R182): reaching idle before the ceiling (92 D18). -/
def txWaitIdleTick (lv : Level) (s : State) : State :=
  let w := advance s.waitTmr
  let t := advance s.symTmr
  let s1 := { s with waitTmr := w, symTmr := if lv = .active then 0#16 else t }
  if lv = .passive ∧ s.params.rxIfsMin ≤ t.toNat then { s1 with drive := .active, phase := .txSof, symTmr := 0#16 }
  else if s.params.txIdleCeil ≤ w.toNat then raiseBusError .txIdleTimeout s1
  else s1

/-- The SOF (43_transmitter.md R183); the line is not read. -/
def txSofTick (s : State) : State :=
  let t := advance s.symTmr
  let s1 := { s with symTmr := t }
  if s.params.txSof ≤ t.toNat then { startSymbol .passive s1 with phase := .txData } else s1

/-- COUNT after one more bit has been sent (43_transmitter.md R184). -/
def countSent (s : State) : State :=
  let n := s.bits.toNat + 1
  if n = 8 then { s with bits := 0#3, bytes := s.bytes + 1#4 } else { s with bits := BitVec.ofNat 3 n }

/-- The end of a data symbol: the next symbol, or the EOF after the last byte (43_transmitter.md R184). -/
def txSymbolEnd (s : State) : State :=
  let s1 := countSent s
  if s1.bytes.toNat = s1.len.toNat then { s1 with drive := .passive, phase := .txEof, symTmr := 0#16 }
  else startSymbol s1.txPol.not s1

/-- A data symbol (43_transmitter.md R184) with the contention detector (R185): an Active sample of the block's own
Passive symbol before its last sample. -/
def txDataTick (lv : Level) (s : State) : State :=
  let t := advance s.symTmr
  let s1 := { s with symTmr := t }
  if s.txPol = .passive ∧ t.toNat < s.txN.toNat ∧ lv = .active then raiseBusError .contention s1
  else if s.txN.toNat ≤ t.toNat then txSymbolEnd s1
  else s1

/-- The EOF (43_transmitter.md R187); the line is not monitored. -/
def txEofTick (s : State) : State :=
  let t := advance s.symTmr
  let s1 := { s with symTmr := t }
  if s.params.txEof ≤ t.toNat then finish .ok .none s1 else s1

end Sys2Proof.Machine
end

