-- ==== Sys2Proof/Machine/Crc.lean ====
section
/-! DEFINITION. The CRC-8 J1850 generator (44_crc8.md): the bit step, the three commands and the function `crc8`. -/

namespace Sys2Proof.Machine

/-- The tap of the bit step (44_crc8.md R210); `acc[7]` is read before the shift. -/
def crcTap (top b : Bool) : Byte :=
  match top, b with
  | true, true => 0x01#8
  | true, false => 0x1D#8
  | false, true => 0x1C#8
  | false, false => 0x00#8

/-- `crcstep(acc, b)` (44_crc8.md R210). -/
def crcstep (acc : Byte) (b : Bool) : Byte := shiftIn acc b ^^^ crcTap (acc.getLsbD 7) b

/-- Eight bit steps with the bits of a byte, bit 7 first (44_crc8.md R213). -/
def crcbyte (acc v : Byte) : Byte :=
  [7, 6, 5, 4, 3, 2, 1, 0].foldl (fun a i => crcstep a (v.getLsbD i)) acc

/-- `crc8(m)` of a byte sequence (44_crc8.md R215). -/
def crc8 (m : List Byte) : Byte := ~~~ (m.foldl crcbyte 0xFF#8)

/-- CRC_INIT, opcode 0x04 (44_crc8.md R211). -/
def execCrcInit (s : State) : Host.Outcome State Fault Refusal := .next { s with crc := 0xFF#8 }

/-- CRC_BIT, opcode 0x05 (44_crc8.md R212): only bit 0 of CRC_DATA is read. -/
def execCrcBit (s : State) : Host.Outcome State Fault Refusal :=
  .next { s with crc := crcstep s.crc (crcDataBit s 0) }

/-- CRC_BYTE, opcode 0x06 (44_crc8.md R213). -/
def execCrcByte (s : State) : Host.Outcome State Fault Refusal := .next { s with crc := crcbyte s.crc s.crcData }

end Sys2Proof.Machine
end

