-- ==== Sys2Proof/Machine/Control.lean ====
section
/-! DEFINITION. The control commands (45_control.md R235, R236). -/

namespace Sys2Proof.Machine

/-- NOP, opcode 0x00 (45_control.md R235). -/
def execNop (s : State) : Host.Outcome State Fault Refusal := .next s

/-- ABORT, opcode 0x03 (45_control.md R236): while idle it does nothing and does not set REJ. -/
def execAbort (s : State) : Host.Outcome State Fault Refusal :=
  if s.busy then .next (finish .aborted .none s) else .next s

end Sys2Proof.Machine
end

