-- ==== Sys2Proof/Machine/Dispatch.lean ====
section
/-! DEFINITION. `exec`: one arm per command of the opcode map (30_encoding.md R83, 45_control.md R234). -/

namespace Sys2Proof.Machine

/-- What one command does in the host phase of the cycle it is written in, on the state the tick phase left. -/
def exec (i : Instr) (s : State) : Host.Outcome State Fault Refusal :=
  match i with
  | .nop => Sys2Proof.Machine.execNop s
  | .receive => Sys2Proof.Machine.execReceive s
  | .transmit => Sys2Proof.Machine.execTransmit s
  | .abort => Sys2Proof.Machine.execAbort s
  | .crcInit => Sys2Proof.Machine.execCrcInit s
  | .crcBit => Sys2Proof.Machine.execCrcBit s
  | .crcByte => Sys2Proof.Machine.execCrcByte s
  | .classify => Sys2Proof.Machine.execClassify s

end Sys2Proof.Machine
end

