-- ==== Sys2Proof/Machine/Cycle.lean ====
section
/-! DEFINITION. One clock cycle (45_control.md R230): outputs, the tick phase, the host read and write paths, the command
decoder, and where a cycle's inputs come from. -/

namespace Sys2Proof.Machine

/-- `RD(S, a)`, the value of `h_rdata` and of `MemRead(a, 1)` (45_control.md R232). -/
def hostRead (s : State) (a : Addr) : Byte :=
  match Reg.ofAddr a with
  | .ctrl => ctrlByte s
  | .cmd => 0x00#8
  | .status => statusByte s
  | .count => countByte s
  | .len => s.len
  | .tmoL => s.tmoL
  | .tmoH => s.tmoH
  | .crc => s.crc
  | .crcData => s.crcData
  | .crcOut => ~~~ s.crc
  | .durL => s.durL
  | .durH => s.durH
  | .clsCfg => clsCfgByte s
  | .clsRes => clsResByte s
  | .state => stateByte s
  | .errCause => errCauseByte s
  | .buf i => bufRead s i.val
  | .reserved _ => 0x00#8

/-- `command(op)` (45_control.md R234): a reserved opcode sets REJ and does nothing else (R237). -/
def command (op : Byte) (s : State) : Host.Outcome State Fault Refusal :=
  match decode op with
  | .ok i => exec i s
  | .error (.reservedOpcode _) => .next (reject s)

/-- `CTRL <- v AND 0x03` (45_control.md R233, R240). -/
def writeCtrl (v : Byte) (s : State) : State := { s with strict := v.getLsbD 0, ie := v.getLsbD 1 }

/-- `CLS_CFG <- v AND 0x07` (45_control.md R233, R240). -/
def writeClsCfg (v : Byte) (s : State) : State :=
  { s with clsCtx := v.extractLsb' 0 2, clsPol := Level.ofBool (v.getLsbD 2) }

/-- `hostWrite(S0, S1, a, v)`, which is `MemWrite(a, 1, v)` (45_control.md R233), on `s` = S1, the state the tick phase
left; only the W1C bits are tested against `s0` = S0. -/
def hostWrite (s0 : State) (a : Addr) (v : Byte) (s : State) : Host.Outcome State Fault Refusal :=
  match Reg.ofAddr a with
  | .ctrl => .next (busyGuard (writeCtrl v) s)
  | .cmd => command v s
  | .status => .next (statusW1C s0 v s)
  | .count => .next s
  | .len => .next (busyGuard (fun t => { t with len := v }) s)
  | .tmoL => .next (busyGuard (fun t => { t with tmoL := v }) s)
  | .tmoH => .next (busyGuard (fun t => { t with tmoH := v }) s)
  | .crc => .next { s with crc := v }
  | .crcData => .next { s with crcData := v }
  | .crcOut => .next s
  | .durL => .next { s with durL := v }
  | .durH => .next { s with durH := v }
  | .clsCfg => .next (writeClsCfg v s)
  | .clsRes => .next s
  | .state => .next s
  | .errCause => .next s
  | .buf i => .next (busyGuard (fun t => bufWrite t i.val v) s)
  | .reserved _ => .next s

/-- The phase rule of one tick (45_control.md R231), after LINE has taken the sample. -/
def phaseTick (lv : Level) (s : State) : State :=
  match s.phase with
  | .idle => s
  | .rxWaitIdle => rxWaitIdleTick lv s
  | .rxWaitSof => rxWaitSofTick lv s
  | .rxSof => rxSofTick lv s
  | .rxData => rxDataTick lv s
  | .txWaitIdle => txWaitIdleTick lv s
  | .txSof => txSofTick s
  | .txData => txDataTick lv s
  | .txEof => txEofTick s

/-- `tickPhase(S, lv)` (45_control.md R231). -/
def tickPhase (lv : Level) (s : State) : State := phaseTick lv (sampleLine s lv)

/-- The state the tick phase leaves, `S1` of 45_control.md R230. -/
def afterTick (inp : CycleInput) (busIn : Level) (s : State) : State :=
  if inp.tick then tickPhase busIn s else s

/-- The next state of `cycle(S0, in)` (45_control.md R230) with `bus_in` = `busIn`: reset before all, then the tick
phase, then the host write. -/
def cycle (inp : CycleInput) (busIn : Level) (s : State) : Host.Outcome State Fault Refusal :=
  if inp.rst then .next (resetBlock s)
  else if inp.we then hostWrite s inp.addr inp.wdata (afterTick inp busIn s)
  else .next (afterTick inp busIn s)

/-- The output ports (10_state.md R20). -/
structure Outputs where
  hRdata   : Byte
  busDrive : Level
  irq      : Bool
deriving DecidableEq, Repr

/-- The outputs of `cycle(S0, in)` (45_control.md R230, R241): all from the state at the start of the cycle. -/
def outputs (s : State) (a : Addr) : Outputs :=
  { hRdata := hostRead s a, busDrive := s.drive, irq := irq s }

/-- This cycle's inputs and the state without them: the first of the queue, or the next free input when nothing is
queued (log 1, 2). -/
def takeInput (s : State) : CycleInput × State :=
  match s.inputs with
  | inp :: rest => (inp, { s with inputs := rest })
  | [] => (Config.freeInput s.freeIdx, { s with freeIdx := s.freeIdx + 1 })

/-- The cycle in which the host writes `v` to `a`, with no tick, no reset and no external Active level. -/
def writeInput (a : Addr) (v : Byte) : CycleInput :=
  { rst := false, tick := false, ext := .passive, addr := a, we := true, wdata := v }

/-- The state in which the very next cycle is `inp`. -/
def queueFirst (inp : CycleInput) (s : State) : State := { s with inputs := inp :: s.inputs }

end Sys2Proof.Machine
end

