-- ==== Sys2Proof/Machine/Step.lean ====
section
/-! DEFINITION. One step of the machine: one clock cycle of one block on its bus. -/

namespace Sys2Proof.Machine

/-- One clock cycle (45_control.md R230). The inputs are the next ones of the environment; `bus_in` is the OR of the
block's own DRIVE and the external part (92 D21; log 5). An illegal parameter set is refused (00_scope.md R6; log 4). -/
def step (s : State) : Host.Outcome State Fault Refusal :=
  if s.params.Legal then
    cycle (takeInput s).1 (busLevel (takeInput s).1.ext [s.drive]) (takeInput s).2
  else .refused .illegalParameters

/-- The state whose very next step is the host's write of the command byte `w` to CMD (30_encoding.md R81; log 6, 19). -/
def State.withFetchWord (s : State) (nbits w : Nat) : State :=
  queueFirst (writeInput Reg.cmd.addr (BitVec.ofNat 8 (w % 2 ^ nbits))) s

end Sys2Proof.Machine
end

