-- ==== Sys2Proof/Machine/Bus.lean ====
section
/-! DEFINITION. Several blocks on one bus (60_exceptions.md R272, 92 D41): independent states that share only the resolved
level of 92 D21. `step` is the case of one block in `netCycle` (log 14; `netCycle_alone` in Laws/Cycle.lean). -/

namespace Sys2Proof.Machine

/-- The external part of the line in one cycle: Active when some input forces it Active. -/
def netExt (ins : List CycleInput) : Level := if .active ∈ ins.map CycleInput.ext then .active else .passive

/-- The level every node samples in this cycle (92 D21): from the DRIVE registers at the start of the cycle. -/
def netLine (ext : Level) (nodes : List State) : Level := busLevel ext (nodes.map State.drive)

/-- One clock cycle of every node, each with its own ports and all with the same line. DESIGN CHOICE (log 4, 14): 00_scope.md
R6 does not say where an illegal set is refused on a shared bus; the node that has one refuses, as in `step`, while its
DRIVE still counts on the line and the other nodes go on. -/
def netCycle (ins : List CycleInput) (nodes : List State) : List (Host.Outcome State Fault Refusal) :=
  List.zipWith
    (fun inp s =>
      if s.params.Legal then cycle inp (netLine (netExt ins) nodes) s else .refused .illegalParameters)
    ins nodes

/-- One cycle in which every node has `tick` = 1 and no host writes: the tick phases alone, with no test of the parameters, so
a statement about it takes legality as a premise (log 4, 14). -/
def netTick (ext : Level) (nodes : List State) : List State := nodes.map (tickPhase (netLine ext nodes))

/-- `n` such cycles with no external driver (`TICKS n` of 30_encoding.md R94 for every node). -/
def netTicks : Nat → List State → List State
  | 0, nodes => nodes
  | n + 1, nodes => netTicks n (netTick .passive nodes)

/-- The tick phases of one block on the sampled levels `lvs`, in bus time order (00_scope.md R12). -/
def tickRun (lvs : List Level) (s : State) : State := lvs.foldl (fun t lv => tickPhase lv t) s

/-- `n` ticks of one block alone on the bus: it samples what it drives itself (92 D21). -/
def aloneTicks : Nat → State → State
  | 0, s => s
  | n + 1, s => aloneTicks n (tickPhase (busLevel .passive [s.drive]) s)

/-- The lengths of the 8 data symbols of a byte, bit 7 first and Passive first (43_transmitter.md R181, R188). -/
def byteDurs (p : Params) (v : Byte) : List Nat :=
  [7, 6, 5, 4, 3, 2, 1, 0].map
    (fun i => symbolDur p (v.getLsbD i) (if i % 2 = 1 then .passive else .active))

/-- `Σ dur` of a frame of `n` bytes (43_transmitter.md R190). -/
def frameDur (p : Params) (byteAt : Nat → Byte) : Nat → Nat
  | 0 => 0
  | n + 1 => frameDur p byteAt n + (byteDurs p (byteAt n)).sum

end Sys2Proof.Machine
end

