-- ==== Sys2Proof/Machine/HostProgram.lean ====
section
/-! DEFINITION. The host program notation of 30_encoding.md R92 to R94: operations, pseudo-instructions, directives. All of
it runs on the host, outside the block (45_control.md R244); it produces the inputs of coming cycles (log 17). -/

namespace Sys2Proof.Machine

/-- The cycle that carries one host operation (30_encoding.md R92). -/
def HostOp.input (tick : Bool) (ext : Level) : HostOp → CycleInput
  | .wr a v => { rst := false, tick := tick, ext := ext, addr := a, we := true, wdata := v }
  | .rd a => { rst := false, tick := tick, ext := ext, addr := a, we := false, wdata := 0x00#8 }

/-- A host program in consecutive cycles, each with `tick` = 1, on a line no external agent drives (30_encoding.md
R95). -/
def programInputs (ops : List HostOp) : List CycleInput := ops.map (HostOp.input true .passive)

/-- `CMD m` (30_encoding.md R93). -/
def pseudoCmd (i : Instr) : List HostOp := [.wr Reg.cmd.addr (encode i)]

/-- `SETTMO n` (30_encoding.md R93). -/
def pseudoSetTmo (n : Ticks) : List HostOp :=
  [.wr Reg.tmoL.addr (n.extractLsb' 0 8), .wr Reg.tmoH.addr (n.extractLsb' 8 8)]

/-- `SETDUR n` (30_encoding.md R93). -/
def pseudoSetDur (n : Ticks) : List HostOp :=
  [.wr Reg.durL.addr (n.extractLsb' 0 8), .wr Reg.durH.addr (n.extractLsb' 8 8)]

/-- The writes of `LOADBUF` from BUF`i` on. -/
def bufWrites : Nat → List Byte → List HostOp
  | _, [] => []
  | i, b :: bs => .wr (BitVec.ofNat 5 (bufBase + i)) b :: bufWrites (i + 1) bs

/-- `LOADBUF b0, .., bk` (30_encoding.md R93). -/
def pseudoLoadBuf (bs : List Byte) : List HostOp :=
  bufWrites 0 bs ++ [.wr Reg.len.addr (BitVec.ofNat 8 bs.length)]

/-- `CRC8 b0, .., bk` up to its `RD CRC_OUT` (30_encoding.md R93). -/
def pseudoCrc8 (bs : List Byte) : List HostOp :=
  pseudoCmd .crcInit ++ (bs.map (fun b => HostOp.wr Reg.crcData.addr b :: pseudoCmd .crcByte)).flatten ++
    [.rd Reg.crcOut.addr]

/-- `CLRDONE` (30_encoding.md R93). -/
def pseudoClrDone : List HostOp := [.wr Reg.status.addr 0x02#8]

/-- `WAITDONE` (30_encoding.md R93): `RD STATUS`, one a cycle with `tick` = 1, until bit 1 reads 1; at most `fuel`
cycles, since a host's own loop is outside the block. DESIGN CHOICE (log 17): the last `RD STATUS`, the one that reads 1, takes
no cycle of its own. R92 read alone would give it one; program P7 of 95_test_vectors.md gives it none. -/
def waitDone : Nat → State → Host.Outcome State Fault Refusal
  | 0, s => .next s
  | fuel + 1, s =>
    if (hostRead s Reg.status.addr).getLsbD 1 then .next s
    else
      match step (queueFirst (HostOp.input true .passive (.rd Reg.status.addr)) s) with
      | .next t => waitDone fuel t
      | .fault r => .fault r
      | .refused r => .refused r

/-- `LINE L for n` (30_encoding.md R94): `n` cycles with `tick` = 1, no host access and the external level `lv`. -/
def lineFor (lv : Level) (n : Nat) : List CycleInput := List.replicate n (HostOp.input true lv (.rd Reg.ctrl.addr))

/-- `TICKS n` (30_encoding.md R94). -/
def ticks (n : Nat) : List CycleInput := lineFor .passive n

/-- `EXT A from t1 to t2` (30_encoding.md R94), on the cycles of which the first is tick `t`. -/
def extActive (t1 t2 : Nat) : Nat → List CycleInput → List CycleInput
  | _, [] => []
  | t, inp :: rest =>
    (if t1 ≤ t ∧ t ≤ t2 then { inp with ext := .active } else inp) :: extActive t1 t2 (t + 1) rest

end Sys2Proof.Machine
end

