-- ==== Sys2Proof/Safety.lean ====
section
/-! DEFINITION. What a safe state is (45_control.md R242), the inductive invariant behind it, reachability, and the names
the statements use. -/

namespace Sys2Proof

/-- The phases of a reception (30_encoding.md R89). -/
def Phase.isRx : Phase → Bool
  | .idle => false
  | .rxWaitIdle => true
  | .rxWaitSof => true
  | .rxSof => true
  | .rxData => true
  | .txWaitIdle => false
  | .txSof => false
  | .txData => false
  | .txEof => false

/-- The phases of a transmission (30_encoding.md R89). -/
def Phase.isTx : Phase → Bool
  | .idle => false
  | .rxWaitIdle => false
  | .rxWaitSof => false
  | .rxSof => false
  | .rxData => false
  | .txWaitIdle => true
  | .txSof => true
  | .txData => true
  | .txEof => true

end Sys2Proof

namespace Sys2Proof.Machine

/-- 45_control.md R242, clause by clause, in its order. -/
structure Coherent (s : State) : Prop where
  /-- 1. BUSY = 1 exactly when PHASE is not IDLE. -/
  busyIff : s.busy = true ↔ s.phase ≠ .idle
  /-- 2. BUSY = 1 implies DONE = 0, RESULT = NONE and ERRCAUSE = NONE. -/
  inFlight : s.busy = true → s.done = false ∧ s.result = .none ∧ s.cause = .none
  /-- 3. In TX_SOF, DRIVE = Active. -/
  driveSof : s.phase = .txSof → s.drive = .active
  /-- 3. In TX_DATA, DRIVE = TXPOL. -/
  driveData : s.phase = .txData → s.drive = s.txPol
  /-- 3. In every other phase DRIVE = Passive. -/
  driveElse : s.phase ≠ .txSof → s.phase ≠ .txData → s.drive = .passive
  /-- 4. COUNT.BITS is at most 7. -/
  bitsLe : s.bits.toNat ≤ 7
  /-- 4. COUNT.BYTES is at most 12. -/
  bytesLe : s.bytes.toNat ≤ 12
  /-- 5. In TX_WAIT_IDLE, TX_SOF and TX_DATA, COUNT.BYTES < LEN. -/
  bytesLtLen : s.phase = .txWaitIdle ∨ s.phase = .txSof ∨ s.phase = .txData → s.bytes.toNat < s.len.toNat
  /-- 5. In TX_EOF, COUNT.BYTES = LEN. -/
  bytesEqLen : s.phase = .txEof → s.bytes.toNat = s.len.toNat
  /-- 6. ERRCAUSE other than NONE implies RESULT = BUSERR and BUSY = 0. -/
  causeOnly : s.cause ≠ .none → s.result = .busErr ∧ s.busy = false
  /-- 7. OP = 0 in the RX phases. -/
  opRx : s.phase.isRx = true → s.op = .receive
  /-- 7. OP = 1 in the TX phases. -/
  opTx : s.phase.isTx = true → s.op = .transmit

/-- The data symbol in flight is the one 43_transmitter.md R188 names: number `8 * BYTES + BITS` of the frame, Passive when
that number is even and Active when it is odd, as long as `dur` says for its bit (R181, R186). -/
structure SymbolInFlight (s : State) : Prop where
  polarity : s.txPol = if s.bits.toNat % 2 = 0 then .passive else .active
  length : s.txN.toNat = symbolDur s.params (bufBit s s.bytes.toNat s.bits.toNat) s.txPol

/-- The timers and counts of each phase: what the bounds of 42_receiver.md R158 and 43_transmitter.md R190 rest on. -/
structure TimersInRange (s : State) : Prop where
  rxWaitIdle : s.phase = .rxWaitIdle → s.waitTmr.toNat < max (tmo s).toNat 1
  rxWaitSof : s.phase = .rxWaitSof → s.waitTmr.toNat < max (tmo s).toNat 1
  rxSof : s.phase = .rxSof → 1 ≤ s.symTmr.toNat ∧ s.symTmr.toNat ≤ s.params.rxSofMax
  rxData : s.phase = .rxData → 1 ≤ s.symTmr.toNat ∧ s.symTmr.toNat ≤ max 1 (s.params.rxEodMin - 1)
  txWaitIdle : s.phase = .txWaitIdle → s.waitTmr.toNat < s.params.txIdleCeil ∧ s.symTmr.toNat < s.params.rxIfsMin
  txSof : s.phase = .txSof → s.symTmr.toNat < s.params.txSof
  txData : s.phase = .txData → s.symTmr.toNat < s.txN.toNat
  txEof : s.phase = .txEof → s.symTmr.toNat < s.params.txEof

/-- The invariant every step keeps: R242 and what its proof needs of the states in between. -/
structure BlockInv (s : State) : Prop where
  coherent : Coherent s
  timers : TimersInRange s
  /-- A reception in flight has room for the byte in progress (42_receiver.md R156). -/
  rxRoom : s.phase.isRx = true → s.bytes.toNat < 12
  /-- A transmission in flight has a legal LEN (43_transmitter.md R180). -/
  txLen : s.phase.isTx = true → 1 ≤ s.len.toNat ∧ s.len.toNat ≤ 12
  /-- Nothing is counted before the first data symbol (42_receiver.md R150, 43_transmitter.md R180). -/
  countZero : s.phase = .rxWaitIdle ∨ s.phase = .rxWaitSof ∨ s.phase = .rxSof ∨ s.phase = .txWaitIdle ∨
    s.phase = .txSof → s.bytes = 0#4 ∧ s.bits = 0#3
  /-- A whole number of bytes has been sent in TX_EOF (43_transmitter.md R184). -/
  eofWhole : s.phase = .txEof → s.bits = 0#3
  symbol : s.phase = .txData → SymbolInFlight s
  /-- The frame buffer is in canonical form (log 9). -/
  bufWf : Memory.wf s.buf = true

/-- The states a legally elaborated block can be in, whatever its environment does: every reset state with any queue, and
what a step makes of them (70_reset_and_hazards.md R291, 92 D45). -/
inductive Reachable : State → Prop where
  | reset (p : Params) (inputs : List CycleInput) (freeIdx : Nat) :
      p.Legal → Reachable (State.resetWith p inputs freeIdx)
  | step (s t : State) : Reachable s → Sys2Proof.Machine.step s = .next t → Reachable t

/-- The next state an outcome holds, or `d` when it holds none. -/
def nextOr (d : State) : Host.Outcome State Fault Refusal → State
  | .next t => t
  | .fault _ => d
  | .refused _ => d

/-- The level the block samples this cycle, alone on its bus with the external part `ext` (92 D21). -/
def sampled (ext : Level) (s : State) : Level := if ext = .active ∨ s.drive = .active then .active else .passive

/-- One more tick on a 16-bit saturating counter, as a number (00_scope.md R10). -/
def oneMore (x : Ticks) : Nat := min (x.toNat + 1) 65535

/-- The NoData timeout as a number: 256 TMO_H + TMO_L (10_state.md R29, 20_memory.md R63). -/
def tmoNat (s : State) : Nat := 256 * s.tmoH.toNat + s.tmoL.toNat

/-- The classified duration as a number: 256 DUR_H + DUR_L (10_state.md R33, 20_memory.md R63). -/
def durNat (s : State) : Nat := 256 * s.durH.toNat + s.durL.toNat

/-- The registers the busy guard covers, by address: CTRL, LEN, TMO_L, TMO_H and BUF0 to BUF11 (10_state.md R40). -/
def guardedAddr (a : Addr) : Bool :=
  decide (a.toNat = 0x00) || decide (a.toNat = 0x04) || decide (a.toNat = 0x05) || decide (a.toNat = 0x06) ||
    (decide (0x10 ≤ a.toNat) && decide (a.toNat ≤ 0x1B))

/-- A written value as the register keeps it (45_control.md R240): CTRL keeps bits 1:0, CLS_CFG bits 2:0. -/
def keptBits (a : Addr) (v : Byte) : Byte :=
  if a.toNat = 0x00 then v &&& 0x03#8 else if a.toNat = 0x0C then v &&& 0x07#8 else v

/-- The phases one tick can lead to (45_control.md R231, 42_receiver.md R151 to R156, 43_transmitter.md R182 to R187). -/
def tickSuccessors : Phase → List Phase
  | .idle => [.idle]
  | .rxWaitIdle => [.rxWaitIdle, .rxWaitSof, .idle]
  | .rxWaitSof => [.rxWaitSof, .rxSof, .idle]
  | .rxSof => [.rxSof, .rxData, .idle]
  | .rxData => [.rxData, .idle]
  | .txWaitIdle => [.txWaitIdle, .txSof, .idle]
  | .txSof => [.txSof, .txData]
  | .txData => [.txData, .txEof, .idle]
  | .txEof => [.txEof, .idle]

/-- What the tick phase never writes (42_receiver.md, 43_transmitter.md, 45_control.md R231): the parameters, CTRL, OP,
REJ, LEN, TMO, CRC, CRC_DATA, DUR, CLS_CFG, CLS_RES and the environment's queue. The engine's own fields are blanked, so two
states with the same host side agree on every one of these. -/
def hostSide (s : State) : State :=
  { s with
    busy := false, done := false, result := .none, line := .passive, bytes := 0#4, bits := 0#3, phase := .idle
    drive := .passive, cause := .none, buf := [], symTmr := 0#16, waitTmr := 0#16, last := .passive, shift := 0x00#8
    txPol := .passive, txN := 0#16 }

end Sys2Proof.Machine
end

