-- ==== Sys2Proof/Certificates/Slice0/Obligations.lean ====
section
/-! DEFINITION. The statements for the provers. Each formalises what its docstring cites; a clause that rests on a choice
of the model names its log entry. -/

open Sys2Proof Sys2Proof.Machine

/-! ### Reset and the step -/

/-- 10_state.md R45: every register as the host reads it after reset (CT1 of 95_test_vectors.md S7), the hidden state, and
both registered outputs. -/
def Obligations.ResetStateHoldsSpecValues : Prop :=
  (∀ a : Addr, hostRead State.reset a =
    if a.toNat = 0x05 then 0x2C#8 else if a.toNat = 0x06 then 0x01#8 else if a.toNat = 0x07 then 0xFF#8 else 0x00#8) ∧
  State.reset.symTmr = 0#16 ∧ State.reset.waitTmr = 0#16 ∧ State.reset.last = .passive ∧ State.reset.txPol = .passive ∧
  State.reset.shift = 0x00#8 ∧ State.reset.txN = 0#16 ∧
  ∀ a : Addr, (outputs State.reset a).busDrive = .passive ∧ (outputs State.reset a).irq = false

/-- 70_reset_and_hazards.md R290: in a cycle with `rst` = 1 the tick phase and the host write are discarded, every register
takes its R45 value whatever the state was, and the outputs of the next cycle are Passive and 0. Which queue the state
then holds is not claimed (log 7). -/
def Obligations.ResetCycleRestoresTheResetState : Prop :=
  ∀ s inp s0, s.params.Legal → takeInput s = (inp, s0) → inp.rst = true →
    ∃ t, step s = .next t ∧ t = State.resetWith t.params t.inputs t.freeIdx ∧ t.params = s.params ∧
      ∀ a, (outputs t a).busDrive = .passive ∧ (outputs t a).irq = false

/-- With the clauses of 00_scope.md R6 written out: a legal parameter set gives every state a next state (45_control.md, The
cycle; 60_exceptions.md, No trap mechanism: no fault), and an illegal one is refused. That it is refused in every step is the
model's choice (log 4, DEDUCED). -/
def Obligations.IllegalParametersAreRefusedLegalOnesRun : Prop :=
  ∀ s : State,
    let p := s.params
    let legal :=
      (1 ≤ p.rxShortMin ∧ p.rxShortMin ≤ p.rxShortLim ∧ p.rxShortLim ≤ p.rxLongMin ∧ p.rxLongMin ≤ p.rxLongLim ∧
        p.rxLongLim ≤ p.rxEodMin ∧ p.rxEodMin ≤ p.rxEofMin ∧ p.rxEofMin ≤ p.rxIfsMin ∧ p.rxIfsMin ≤ 65535) ∧
      (1 ≤ p.rxSofMin ∧ p.rxSofMin ≤ p.rxSofMax ∧ p.rxSofMax < 65535) ∧
      (∀ n ∈ [p.txShort, p.txLong, p.txSof, p.txEof, p.txIdleCeil], 1 ≤ n ∧ n ≤ 65535) ∧
      p.maxBytes = 12 ∧ p.timerW = 16
    (legal → ∃ t, step s = .next t ∧ t.params = p) ∧ (¬ legal → step s = .refused .illegalParameters)

/-- 45_control.md R230, R233, R234: what one step is. When this cycle's inputs write to CMD a byte that decodes to `i`, the
step is the tick phase (if `tick` = 1, on the level of 92 D21) and then `exec i`; for a write to any register it is the
tick phase and then the host write; without a write it is the tick phase alone, and without `tick` too nothing of the
block changes, LINE included (92 D42). The inputs are the queue's first, or a free value (log 1, 2). -/
def Obligations.StepRunsTheDecodedCommand : Prop :=
  ∀ s inp s0, s.params.Legal → takeInput s = (inp, s0) → inp.rst = false →
    let s1 := if inp.tick then tickPhase (sampled inp.ext s) s0 else s0
    (∀ i, inp.we = true → inp.addr = 0x01#5 → decode inp.wdata = .ok i → step s = exec i s1) ∧
    (inp.we = true → step s = hostWrite s0 inp.addr inp.wdata s1) ∧
    (inp.we = false → step s = .next s1) ∧
    (inp.we = false → inp.tick = false →
      ∃ t, step s = .next t ∧ { t with inputs := s.inputs, freeIdx := s.freeIdx } = s)

/-- 20_memory.md R66: a read has no side effect. Two cycles that differ only in what the port presents without a write
strobe have the same next state, on every line level. -/
def Obligations.ReadsHaveNoSideEffect : Prop :=
  ∀ (inp : CycleInput) (a : Addr) (v : Byte) (lv : Level) (s : State), inp.we = false →
    cycle { inp with addr := a, wdata := v } lv s = cycle inp lv s

/-! ### Encodings -/

/-- 30_encoding.md R83: the opcode map, the whole byte matched, and 0x08 to 0xFF reserved. -/
def Obligations.OpcodeMapIsTheTable : Prop :=
  decode 0b00000000#8 = .ok .nop ∧ decode 0b00000001#8 = .ok .receive ∧ decode 0b00000010#8 = .ok .transmit ∧
  decode 0b00000011#8 = .ok .abort ∧ decode 0b00000100#8 = .ok .crcInit ∧ decode 0b00000101#8 = .ok .crcBit ∧
  decode 0b00000110#8 = .ok .crcByte ∧ decode 0b00000111#8 = .ok .classify ∧
  ∀ op : Byte, 8 ≤ op.toNat → decode op = .error (.reservedOpcode op)

/-- Decoding an encoded command gives it back, and no two bytes are the same command; the register map is one to one on the
whole address space, and `BUF[i]` is at 0x10 + i (30_encoding.md, Formats and Opcode map; 10_state.md, Register map). -/
def Obligations.DecodeAndEncodeAgree : Prop :=
  (∀ i : Instr, i.wf = true → decode (encode i) = .ok i) ∧ (∀ (op : Byte) (i : Instr), decode op = .ok i → encode i = op) ∧
  (∀ r : Reg, Reg.ofAddr r.addr = r) ∧ (∀ a : Addr, (Reg.ofAddr a).addr = a) ∧
  ∀ i : Fin 12, (Reg.addr (.buf i)).toNat = 0x10 + i.val

/-- 30_encoding.md R85 to R89, and STATUS.OP of 10_state.md R26: every field code, and that no reserved code is produced
(R84). CTX is the one code software writes, so its reserved value 3 is no context. -/
def Obligations.FieldCodesAreTheTables : Prop :=
  ([Context.data, .sof, .boundary].map some ++ [none]) = [0#2, 1#2, 2#2, 3#2].map Context.ofCode ∧
  [Operation.receive, .transmit].map Operation.code = [0#1, 1#1] ∧
  [Category.invalid, .short, .long, .sof, .eod, .eof, .ifs].map Category.code = [0#3, 1#3, 2#3, 4#3, 5#3, 6#3, 7#3] ∧
  [ResultCode.none, .ok, .noData, .busErr, .dataErr, .aborted].map ResultCode.code =
    [0#3, 1#3, 2#3, 3#3, 4#3, 5#3] ∧
  [Cause.none, .sofShort, .sofLong, .glitch, .ambiguous, .contention, .txIdleTimeout].map Cause.code =
    [0#3, 1#3, 2#3, 3#3, 4#3, 5#3, 6#3] ∧
  [Phase.idle, .rxWaitIdle, .rxWaitSof, .rxSof, .rxData, .txWaitIdle, .txSof, .txData, .txEof].map Phase.code =
    [0#4, 1#4, 2#4, 3#4, 4#4, 5#4, 6#4, 7#4, 8#4] ∧
  (∀ c : Category, c.code ≠ 3#3) ∧ (∀ r : ResultCode, r.code.toNat < 6) ∧ (∀ c : Cause, c.code.toNat < 7) ∧
  ∀ p : Phase, p.code.toNat < 9

/-! ### Host reads and writes -/

/-- 45_control.md R232: what each of the 32 addresses reads, as a number, from the state at the start of the cycle. -/
def Obligations.HostReadsPackTheFields : Prop :=
  ∀ s : State,
    let rd (n : Nat) : Nat := (outputs s (BitVec.ofNat 5 n)).hRdata.toNat
    let lv (l : Level) : Nat := if l = .active then 1 else 0
    rd 0x00 = s.strict.toNat + 2 * s.ie.toNat ∧
    rd 0x01 = 0 ∧
    rd 0x02 = s.busy.toNat + 2 * s.done.toNat + 4 * s.result.code.toNat + 32 * s.op.code.toNat + 64 * s.rej.toNat +
      128 * lv s.line ∧
    rd 0x03 = s.bytes.toNat + 16 * s.bits.toNat ∧
    rd 0x04 = s.len.toNat ∧ rd 0x05 = s.tmoL.toNat ∧ rd 0x06 = s.tmoH.toNat ∧ rd 0x07 = s.crc.toNat ∧
    rd 0x08 = s.crcData.toNat ∧ rd 0x09 = 255 - s.crc.toNat ∧ rd 0x0A = s.durL.toNat ∧ rd 0x0B = s.durH.toNat ∧
    rd 0x0C = s.clsCtx.toNat + 4 * lv s.clsPol ∧
    rd 0x0D = s.clsCat.code.toNat + 8 * s.clsBit.toNat + 16 * s.clsBerr.toNat ∧
    rd 0x0E = s.phase.code.toNat + 16 * lv s.drive ∧
    rd 0x0F = s.cause.code.toNat ∧
    (∀ i, i < 12 → rd (0x10 + i) = (bufRead s i).toNat) ∧
    ∀ i, i < 4 → rd (0x1C + i) = 0

/-- 10_state.md R40, 45_control.md R239: while BUSY (as the tick phase left it) a write to CTRL, LEN, TMO_L, TMO_H or BUF
only sets REJ; with BUSY = 0 it is stored, and every other address reads as before, the hidden state too. -/
def Obligations.GuardedWritesAreRefusedWhileBusy : Prop :=
  ∀ (s0 s : State) (a : Addr) (v : Byte), guardedAddr a = true → Memory.wf s.buf = true →
    (s.busy = true → hostWrite s0 a v s = .next { s with rej := true }) ∧
    (s.busy = false → ∃ t, hostWrite s0 a v s = .next t ∧ hostRead t a = keptBits a v ∧
      (∀ b, b ≠ a → hostRead t b = hostRead s b) ∧ t.symTmr = s.symTmr ∧ t.waitTmr = s.waitTmr ∧ t.last = s.last ∧
      t.shift = s.shift ∧ t.txPol = s.txPol ∧ t.txN = s.txN ∧ t.params = s.params)

/-- 45_control.md R233: CRC, CRC_DATA, DUR_L, DUR_H and CLS_CFG are stored whatever BUSY holds (92 D26), masked to their
defined bits (R240), and nothing else changes. -/
def Obligations.UnguardedWritesAreStored : Prop :=
  ∀ (s0 s : State) (v : Byte),
    hostWrite s0 0x07#5 v s = .next { s with crc := v } ∧ hostWrite s0 0x08#5 v s = .next { s with crcData := v } ∧
    hostWrite s0 0x0A#5 v s = .next { s with durL := v } ∧ hostWrite s0 0x0B#5 v s = .next { s with durH := v } ∧
    ∃ t, hostWrite s0 0x0C#5 v s = .next t ∧ t = { s with clsCtx := t.clsCtx, clsPol := t.clsPol } ∧
      hostRead t 0x0C#5 = v &&& 0x07#8

/-- 10_state.md R39, R41: a write to COUNT, CRC_OUT, CLS_RES, STATE, ERRCAUSE, a reserved address or the read-only bits of
STATUS changes nothing, REJ included; the reserved addresses read 0x00. -/
def Obligations.ReadOnlyAndReservedWritesChangeNothing : Prop :=
  ∀ (s0 s : State) (a : Addr) (v : Byte),
    (a.toNat ∈ [0x03, 0x09, 0x0D, 0x0E, 0x0F, 0x1C, 0x1D, 0x1E, 0x1F] → hostWrite s0 a v s = .next s) ∧
    (a = 0x02#5 → v.getLsbD 1 = false → v.getLsbD 6 = false → hostWrite s0 a v s = .next s) ∧
    (0x1C ≤ a.toNat → hostRead s a = 0x00#8)

/-- 45_control.md R238: a write to STATUS clears DONE and REJ where it writes 1 and they were 1 in `S0`; the other bits are
ignored. -/
def Obligations.StatusWriteOneToClear : Prop :=
  ∀ (s0 s : State) (v : Byte),
    hostWrite s0 0x02#5 v s = .next
      { s with
        done := if v.getLsbD 1 = true ∧ s0.done = true then false else s.done
        rej := if v.getLsbD 6 = true ∧ s0.rej = true then false else s.rej }

/-- 45_control.md R238, 60_exceptions.md R267: a completion in the very cycle of a DONE-clearing write is not lost (CT15). -/
def Obligations.CompletionInTheClearingCycleSurvives : Prop :=
  ∀ s inp s0, s.params.Legal → BlockInv s → takeInput s = (inp, s0) → inp.rst = false → inp.tick = true → inp.we = true →
    inp.addr = 0x02#5 → s.busy = true → (tickPhase (sampled inp.ext s) s0).busy = false →
    ∃ t, step s = .next t ∧ t.done = true ∧ t.busy = false

/-- 45_control.md R237: a reserved opcode sets REJ and does nothing else. -/
def Obligations.ReservedOpcodeSetsRejOnly : Prop :=
  ∀ s inp s0, s.params.Legal → takeInput s = (inp, s0) → inp.rst = false → inp.we = true → inp.addr = 0x01#5 →
    8 ≤ inp.wdata.toNat →
    step s = .next { (if inp.tick then tickPhase (sampled inp.ext s) s0 else s0) with rej := true }

/-- 60_exceptions.md R263: the refusals listed there set REJ and do nothing else; REJ rises by no other way, and falls only
by reset or by W1C of bit 6. BUSY and CTX are those the tick phase of the cycle left. -/
def Obligations.RejIsSetOnlyByRefusalsAndSticky : Prop :=
  ∀ s inp s0 t, takeInput s = (inp, s0) → step s = .next t →
    let s1 := if inp.tick then tickPhase (sampled inp.ext s) s0 else s0
    let refused :=
      inp.rst = false ∧ inp.we = true ∧
        ((inp.addr = 0x01#5 ∧
            (8 ≤ inp.wdata.toNat ∨ ((inp.wdata = 0x01#8 ∨ inp.wdata = 0x02#8) ∧ s1.busy = true) ∨
              (inp.wdata = 0x07#8 ∧ s1.clsCtx = 3#2))) ∨
          (guardedAddr inp.addr = true ∧ s1.busy = true))
    (refused → t = { s1 with rej := true }) ∧
    (s.rej = false → t.rej = true → refused) ∧
    (s.rej = true → t.rej = false →
      inp.rst = true ∨ (inp.we = true ∧ inp.addr = 0x02#5 ∧ inp.wdata.getLsbD 6 = true))

/-- 45_control.md R241: `bus_drive` = STATE.DRIVE in every cycle. 60_exceptions.md R266: `irq` = DONE AND IE in every cycle;
DONE rises only with an outcome and no operation in flight, and falls only by reset, by W1C of bit 1, or by the acceptance of
the next operation. -/
def Obligations.IrqFollowsDoneAndDoneFollowsCompletion : Prop :=
  (∀ (s : State) (a : Addr), (outputs s a).busDrive = s.drive) ∧
  (∀ (s : State) (a : Addr), (outputs s a).irq = true ↔ s.done = true ∧ s.ie = true) ∧
  ∀ s inp s0 t, takeInput s = (inp, s0) → step s = .next t →
    (s.done = false → t.done = true → t.busy = false ∧ t.result ≠ .none) ∧
    (s.done = true → t.done = false →
      inp.rst = true ∨
      (inp.we = true ∧ inp.addr = 0x02#5 ∧ inp.wdata.getLsbD 1 = true) ∨
      (inp.we = true ∧ inp.addr = 0x01#5 ∧ (inp.wdata = 0x01#8 ∨ inp.wdata = 0x02#8) ∧ t.busy = true))

/-- 10_state.md R38: the frame buffer reads back what was last written, leaves every other byte, keeps its canonical form,
and is determined by what it reads as (the list form and what an unlisted address reads as are log 9). -/
def Obligations.FrameBufferReadsBackAndStaysCanonical : Prop :=
  (∀ (s : State) (i j : Nat) (v : Byte), Memory.wf s.buf = true → i < 12 →
    Memory.wf (bufWrite s i v).buf = true ∧ bufRead (bufWrite s i v) j = if j = i then v else bufRead s j) ∧
  ∀ s t : State, Memory.wf s.buf = true → Memory.wf t.buf = true → (∀ i, i < 12 → bufRead s i = bufRead t i) →
    s.buf = t.buf

/-! ### The commands -/

/-- 45_control.md R235, R236: NOP changes nothing. ABORT ends the operation in flight with ABORTED and a Passive drive, and
does nothing while idle. -/
def Obligations.NopAndAbortAreTheControlCommands : Prop :=
  ∀ s : State,
    exec .nop s = .next s ∧
    (s.busy = true → exec .abort s = .next
      { s with busy := false, done := true, result := .aborted, cause := .none, phase := .idle, drive := .passive }) ∧
    (s.busy = false → exec .abort s = .next s)

/-- 00_scope.md R11: what `finish` writes, and that it writes nothing else. -/
def Obligations.FinishWritesExactlyItsRegisters : Prop :=
  ∀ (r : ResultCode) (c : Cause) (s : State),
    finish r c s =
      { s with busy := false, done := true, result := r, cause := c, phase := .idle, drive := .passive }

/-- 42_receiver.md R150: an accepted RECEIVE, and a refused one. -/
def Obligations.ReceiveStartsOrIsRefused : Prop :=
  ∀ s : State,
    (s.busy = false → exec .receive s = .next
      { s with
        busy := true, done := false, result := .none, op := .receive, cause := .none, bytes := 0#4, bits := 0#3
        shift := 0x00#8, symTmr := 0#16, waitTmr := 0#16, last := .passive, phase := .rxWaitIdle }) ∧
    (s.busy = true → exec .receive s = .next { s with rej := true })

/-- 43_transmitter.md R180: a refused TRANSMIT, one with an illegal LEN, and an accepted one (MAX_BYTES = 12, R6). -/
def Obligations.TransmitStartsOrRaisesOrIsRefused : Prop :=
  ∀ s : State, s.params.maxBytes = 12 →
    (s.busy = true → exec .transmit s = .next { s with rej := true }) ∧
    (s.busy = false → s.len.toNat < 1 ∨ 12 < s.len.toNat → exec .transmit s = .next
      { s with done := true, result := .dataErr, op := .transmit, cause := .none, bytes := 0#4, bits := 0#3 }) ∧
    (s.busy = false → 1 ≤ s.len.toNat → s.len.toNat ≤ 12 → exec .transmit s = .next
      { s with
        busy := true, done := false, result := .none, op := .transmit, cause := .none, bytes := 0#4, bits := 0#3
        symTmr := 0#16, waitTmr := 0#16, phase := .txWaitIdle })

/-- 44_crc8.md R210 to R213: the three CRC commands, with the bit step written out; nothing but CRC changes. -/
def Obligations.CrcCommandsUpdateCrcOnly : Prop :=
  ∀ s : State,
    let bitStep (acc : Byte) (b : Bool) : Byte :=
      BitVec.ofNat 8 (2 * acc.toNat + b.toNat) ^^^
        (if acc.getLsbD 7 = true then (if b = true then 0x01#8 else 0x1D#8) else (if b = true then 0x1C#8 else 0x00#8))
    let d := s.crcData
    exec .crcInit s = .next { s with crc := 0xFF#8 } ∧
    exec .crcBit s = .next { s with crc := bitStep s.crc (d.getLsbD 0) } ∧
    exec .crcByte s = .next
      { s with
        crc :=
          bitStep (bitStep (bitStep (bitStep (bitStep (bitStep (bitStep (bitStep s.crc (d.getLsbD 7)) (d.getLsbD 6))
            (d.getLsbD 5)) (d.getLsbD 4)) (d.getLsbD 3)) (d.getLsbD 2)) (d.getLsbD 1)) (d.getLsbD 0) }

/-- 40_classifier.md R108 with the windows of R104 to R106 and the bits of 41_symbol_decoder.md R130, R131 written out:
CLASSIFY in each context writes CLS_RES and nothing else; CTX = 3 sets REJ and nothing else. -/
def Obligations.ClassifyWritesClsRes : Prop :=
  ∀ s : State,
    let p := s.params
    let d := durNat s
    let res (cat : Category) (bit berr : Bool) : Host.Outcome State Fault Refusal :=
      .next { s with clsCat := cat, clsBit := bit, clsBerr := berr }
    (s.clsCtx = 0#2 → exec .classify s =
      if d < p.rxShortMin then res .invalid false true
      else if d < p.rxShortLim then res .short (decide (s.clsPol = .active)) false
      else if p.rxLongMin ≤ d ∧ d < p.rxLongLim then res .long (decide (s.clsPol = .passive)) false
      else if p.rxEodMin ≤ d then res .eod false false
      else res .invalid false s.strict) ∧
    (s.clsCtx = 1#2 → exec .classify s =
      if p.rxSofMin ≤ d ∧ d ≤ p.rxSofMax then res .sof false false else res .invalid false true) ∧
    (s.clsCtx = 2#2 → exec .classify s =
      if d < p.rxEodMin then res .invalid false false
      else if d < p.rxEofMin then res .eod false false
      else if d < p.rxIfsMin then res .eof false false
      else res .ifs false false) ∧
    (s.clsCtx = 3#2 → exec .classify s = .next { s with rej := true })

/-! ### Classifier and symbol decoder -/

/-- 40_classifier.md, the classify function: under a legal parameter set each outcome of each classifier, the Invalid ones
included, is exactly its window or gap, and a longer duration never falls into an earlier category. -/
def Obligations.ClassifiersPartitionTheTickAxis : Prop :=
  ∀ p : Params, p.Legal → ∀ d d' : Ticks, d.toNat ≤ d'.toNat →
    (classifyData p d = .glitch ↔ d.toNat < p.rxShortMin) ∧
    (classifyData p d = .short ↔ p.rxShortMin ≤ d.toNat ∧ d.toNat < p.rxShortLim) ∧
    (classifyData p d = .long ↔ p.rxLongMin ≤ d.toNat ∧ d.toNat < p.rxLongLim) ∧
    (classifyData p d = .eod ↔ p.rxEodMin ≤ d.toNat) ∧
    (classifyData p d = .ambig ↔
      (p.rxShortLim ≤ d.toNat ∧ d.toNat < p.rxLongMin) ∨ (p.rxLongLim ≤ d.toNat ∧ d.toNat < p.rxEodMin)) ∧
    (classifySof p d = .tooShort ↔ d.toNat < p.rxSofMin) ∧
    (classifySof p d = .sof ↔ p.rxSofMin ≤ d.toNat ∧ d.toNat ≤ p.rxSofMax) ∧
    (classifySof p d = .tooLong ↔ p.rxSofMax < d.toNat) ∧
    (classifyBoundary p d = .invalid ↔ d.toNat < p.rxEodMin) ∧
    (classifyBoundary p d = .eod ↔ p.rxEodMin ≤ d.toNat ∧ d.toNat < p.rxEofMin) ∧
    (classifyBoundary p d = .eof ↔ p.rxEofMin ≤ d.toNat ∧ d.toNat < p.rxIfsMin) ∧
    (classifyBoundary p d = .ifs ↔ p.rxIfsMin ≤ d.toNat) ∧
    (classifyData p d = .short → classifyData p d' ≠ .glitch) ∧
    (classifyData p d = .long → classifyData p d' ≠ .glitch ∧ classifyData p d' ≠ .short) ∧
    (classifyData p d = .eod → classifyData p d' = .eod) ∧
    (classifySof p d = .sof → classifySof p d' ≠ .tooShort) ∧
    (classifySof p d = .tooLong → classifySof p d' = .tooLong) ∧
    (classifyBoundary p d).code.toNat ≤ (classifyBoundary p d').code.toNat

/-- 43_transmitter.md R181: the length of the symbol for bit `b` with polarity `pol`, and that for a legal, round-trip-safe
set (00_scope.md R7) the decoder gives back `b`, without an error, whatever STRICT holds. -/
def Obligations.SymbolLengthsDecodeToTheirBit : Prop :=
  ∀ p : Params,
    (symbolDur p true .active = p.txShort ∧ symbolDur p true .passive = p.txLong ∧
      symbolDur p false .active = p.txLong ∧ symbolDur p false .passive = p.txShort) ∧
    (p.Legal → p.RoundTripSafe → ∀ (b : Bool) (pol : Level) (strict : Bool),
      (decodeSymbol p (BitVec.ofNat 16 (symbolDur p b pol)) pol strict).bit = b ∧
      (decodeSymbol p (BitVec.ofNat 16 (symbolDur p b pol)) pol strict).berr = false)

/-- 41_symbol_decoder.md R132, R133: a bit enters at bit 0; the eighth completes `BUF[BYTES]`; nothing else changes. -/
def Obligations.AccumulateShiftsInAndCompletesBytes : Prop :=
  ∀ (b : Bool) (s : State), Memory.wf s.buf = true → s.bytes.toNat < 12 →
    let v : Byte := BitVec.ofNat 8 (2 * s.shift.toNat + b.toNat)
    let t := accumulate b s
    t = { s with shift := v, bits := t.bits, bytes := t.bytes, buf := t.buf } ∧
      (s.bits.toNat < 7 → t.bits.toNat = s.bits.toNat + 1 ∧ t.bytes = s.bytes ∧ t.buf = s.buf) ∧
      (s.bits.toNat = 7 → t.bits.toNat = 0 ∧ t.bytes.toNat = s.bytes.toNat + 1 ∧
        ∀ j, bufRead t j = if j = s.bytes.toNat then v else bufRead s j)

/-- 41_symbol_decoder.md, bit accumulator: eight bits in arrival order make the byte, first bit most significant, and leave
every other byte of BUF. -/
def Obligations.EightBitsMakeAByte : Prop :=
  ∀ (s : State) (b1 b2 b3 b4 b5 b6 b7 b8 : Bool), Memory.wf s.buf = true → s.bytes.toNat < 12 → s.bits = 0#3 →
    let t := [b1, b2, b3, b4, b5, b6, b7, b8].foldl (fun u b => accumulate b u) s
    t.bits = 0#3 ∧ t.bytes.toNat = s.bytes.toNat + 1 ∧
    (bufRead t s.bytes.toNat).toNat =
      b1.toNat * 128 + b2.toNat * 64 + b3.toNat * 32 + b4.toNat * 16 + b5.toNat * 8 + b6.toNat * 4 + b7.toNat * 2 +
        b8.toNat ∧
    ∀ j, j ≠ s.bytes.toNat → bufRead t j = bufRead s j

/-! ### One tick of the receiver -/

/-- 42_receiver.md R151, R152: one tick of the initial wait. WaitIdle tests the timeout before the line; the wait for the SOF
edge takes an Active sample before the timeout. -/
def Obligations.InitialWaitTicks : Prop :=
  ∀ (s : State) (lv : Level),
    let w := oneMore s.waitTmr
    let u := oneMore s.symTmr
    let s1 := { s with line := lv, waitTmr := BitVec.ofNat 16 w }
    (s.phase = .rxWaitIdle → tickPhase lv s =
      if tmoNat s ≤ w then finish .noData .none s1
      else if lv = .active then { s1 with symTmr := 0#16 }
      else if s.params.rxIfsMin ≤ u then { s1 with symTmr := BitVec.ofNat 16 u, phase := .rxWaitSof }
      else { s1 with symTmr := BitVec.ofNat 16 u }) ∧
    (s.phase = .rxWaitSof → tickPhase lv s =
      if lv = .active then { s1 with phase := .rxSof, symTmr := 1#16 }
      else if tmoNat s ≤ w then finish .noData .none s1
      else s1)

/-- 42_receiver.md R153: the SOF pulse, too long, growing, too short, or accepted. -/
def Obligations.SofTick : Prop :=
  ∀ (s : State) (lv : Level), s.phase = .rxSof →
    let u := oneMore s.symTmr
    let s1 := { s with line := lv }
    tickPhase lv s =
      if lv = .active then
        if s.params.rxSofMax < u then finish .busErr .sofLong { s1 with symTmr := BitVec.ofNat 16 u }
        else { s1 with symTmr := BitVec.ofNat 16 u }
      else if s.symTmr.toNat < s.params.rxSofMin then finish .busErr .sofShort s1
      else { s1 with last := .passive, symTmr := 1#16, phase := .rxData }

/-- 42_receiver.md R154: a run without a transition, at either level, ends the frame when it reaches the EOD window. -/
def Obligations.HoldTick : Prop :=
  ∀ (s : State) (lv : Level), s.phase = .rxData → lv = s.last →
    let u := oneMore s.symTmr
    let s1 := { s with line := lv, symTmr := BitVec.ofNat 16 u }
    tickPhase lv s = if s.params.rxEodMin ≤ u then finish .ok .none s1 else s1

/-- 42_receiver.md R155, R156: at a transition the symbol that ended (polarity LAST, duration SYM_TMR) raises BusError or
gives a bit (the windows of 40_classifier.md R104 and the bits of 41_symbol_decoder.md R130, R131 written out); the bit is
accumulated, LAST and SYM_TMR restart, and the twelfth byte ends the frame with OK. The last clause is R131's EOD arm, which
no reachable state of a set with 2 ≤ RX_EOD_MIN comes to (log 15). -/
def Obligations.TransitionTick : Prop :=
  ∀ (s : State) (lv : Level), s.params.maxBytes = 12 → s.phase = .rxData → lv ≠ s.last → s.bytes.toNat < 12 →
    let p := s.params
    let d := s.symTmr.toNat
    let s1 := { s with line := lv }
    let long := p.rxLongMin ≤ d ∧ d < p.rxLongLim
    let gap := p.rxShortLim ≤ d ∧ ¬ long ∧ d < p.rxEodMin
    let got (b : Bool) : State :=
      let t := { accumulate b s1 with last := lv, symTmr := 1#16 }
      if s.bytes.toNat = 11 ∧ s.bits.toNat = 7 then finish .ok .none t else t
    (d < p.rxShortMin → tickPhase lv s = finish .busErr .glitch s1) ∧
    (p.rxShortMin ≤ d → d < p.rxShortLim → tickPhase lv s = got (decide (s.last = .active))) ∧
    (p.rxShortMin ≤ d → p.rxShortLim ≤ d → long → tickPhase lv s = got (decide (s.last = .passive))) ∧
    (p.rxShortMin ≤ d → gap → s.strict = true → tickPhase lv s = finish .busErr .ambiguous s1) ∧
    (p.rxShortMin ≤ d → gap → s.strict = false → tickPhase lv s = got false) ∧
    (p.rxShortMin ≤ d → p.rxShortLim ≤ d → ¬ long → p.rxEodMin ≤ d → tickPhase lv s = got false)

/-! ### One tick of the transmitter -/

/-- 43_transmitter.md R182: the idle wait, reaching idle before the ceiling. -/
def Obligations.TransmitIdleWaitTick : Prop :=
  ∀ (s : State) (lv : Level), s.phase = .txWaitIdle →
    let w := oneMore s.waitTmr
    let u := oneMore s.symTmr
    let s1 := { s with
      line := lv, waitTmr := BitVec.ofNat 16 w, symTmr := if lv = .active then 0#16 else BitVec.ofNat 16 u }
    tickPhase lv s =
      if lv = .passive ∧ s.params.rxIfsMin ≤ u then { s1 with drive := .active, phase := .txSof, symTmr := 0#16 }
      else if s.params.txIdleCeil ≤ w then finish .busErr .txIdleTimeout s1
      else s1

/-- 43_transmitter.md R183, R186, R187: one tick of the SOF, which ends in the first data symbol, Passive, of the bit
`BUF[BYTES][7 - BITS]`, and one tick of the EOF, which ends in OK. Neither reads the line. -/
def Obligations.TransmitSofAndEofTicks : Prop :=
  ∀ (s : State) (lv : Level),
    let u := oneMore s.symTmr
    let b := (bufRead s s.bytes.toNat).getLsbD (7 - s.bits.toNat)
    let s1 := { s with line := lv, symTmr := BitVec.ofNat 16 u }
    (s.phase = .txSof → tickPhase lv s =
      if s.params.txSof ≤ u then
        { s with
          line := lv, phase := .txData, txPol := .passive, drive := .passive, symTmr := 0#16
          txN := BitVec.ofNat 16 (if b = true then s.params.txLong else s.params.txShort) }
      else s1) ∧
    (s.phase = .txEof → tickPhase lv s = if s.params.txEof ≤ u then finish .ok .none s1 else s1)

/-- 43_transmitter.md R184, R186: contention, the end of a data symbol, or one more sample of it. At its end COUNT takes the
bit, and either the EOF begins or the next symbol, of the other polarity. -/
def Obligations.TransmitDataTick : Prop :=
  ∀ (s : State) (lv : Level), s.phase = .txData → s.bytes.toNat < 12 →
    let u := oneMore s.symTmr
    let s1 := { s with line := lv, symTmr := BitVec.ofNat 16 u }
    let bits' := if s.bits.toNat = 7 then 0 else s.bits.toNat + 1
    let bytes' := if s.bits.toNat = 7 then s.bytes.toNat + 1 else s.bytes.toNat
    let s2 := { s1 with symTmr := 0#16, bits := BitVec.ofNat 3 bits', bytes := BitVec.ofNat 4 bytes' }
    let b := (bufRead s bytes').getLsbD (7 - bits')
    tickPhase lv s =
      if s.txPol = .passive ∧ u < s.txN.toNat ∧ lv = .active then finish .busErr .contention s1
      else if u < s.txN.toNat then s1
      else if bytes' = s.len.toNat then { s2 with drive := .passive, phase := .txEof }
      else if s.txPol = .passive then
        { s2 with
          txPol := .active, drive := .active
          txN := BitVec.ofNat 16 (if b = true then s.params.txShort else s.params.txLong) }
      else
        { s2 with
          txPol := .passive, drive := .passive
          txN := BitVec.ofNat 16 (if b = true then s.params.txLong else s.params.txShort) }

/-- 43_transmitter.md R185: after contention the block has stopped driving, reports it, keeps COUNT, and drives nothing on
whatever the line does next. -/
def Obligations.ContentionStopsDriving : Prop :=
  ∀ (s : State) (later : List Level), s.phase = .txData → s.txPol = .passive → oneMore s.symTmr < s.txN.toNat →
    let t := tickPhase .active s
    t.result = .busErr ∧ t.cause = .contention ∧ t.busy = false ∧ t.done = true ∧ t.bytes = s.bytes ∧ t.bits = s.bits ∧
    t.phase = .idle ∧ t.drive = .passive ∧ (tickRun later t).drive = .passive ∧ (tickRun later t).phase = .idle

/-! ### Whole-machine rules -/

/-- The tick phase's frame: it writes no parameter, no operand register, no CRC, classifier or REJ register, not OP, and no
byte of BUF but `BUF[BYTES]` of a reception (10_state.md R24 to R38, "The block never writes"; 44_crc8.md R217). It samples
the line into STATUS.LINE in every phase, and with PHASE = IDLE does nothing else (45_control.md R231, 92 D39). -/
def Obligations.TickPhaseFrame : Prop :=
  ∀ (s : State) (lv : Level),
    let t := tickPhase lv s
    t.line = lv ∧ (s.phase = .idle → t = { s with line := lv }) ∧
    t.params = s.params ∧ t.strict = s.strict ∧ t.ie = s.ie ∧ t.op = s.op ∧ t.rej = s.rej ∧ t.len = s.len ∧
    t.tmoL = s.tmoL ∧ t.tmoH = s.tmoH ∧ t.crc = s.crc ∧ t.crcData = s.crcData ∧ t.durL = s.durL ∧ t.durH = s.durH ∧
    t.clsCtx = s.clsCtx ∧ t.clsPol = s.clsPol ∧ t.clsCat = s.clsCat ∧ t.clsBit = s.clsBit ∧ t.clsBerr = s.clsBerr ∧
    (s.phase ≠ .rxData → t.buf = s.buf) ∧
    (Memory.wf s.buf = true → ∀ i, i ≠ s.bytes.toNat → bufRead t i = bufRead s i)

/-- 40_classifier.md R100, R101: in a tick phase a counter keeps its value, advances by one (saturating) or restarts, SYM_TMR
at 0 or 1; no host write but an accepted RECEIVE or TRANSMIT, which zeroes both, changes either. -/
def Obligations.TimersOnlyAdvanceOrRestart : Prop :=
  (∀ (s : State) (lv : Level),
    let t := tickPhase lv s
    (t.symTmr = s.symTmr ∨ t.symTmr.toNat = oneMore s.symTmr ∨ t.symTmr = 0#16 ∨ t.symTmr = 1#16) ∧
    (t.waitTmr = s.waitTmr ∨ t.waitTmr.toNat = oneMore s.waitTmr)) ∧
  ∀ (s0 s t : State) (a : Addr) (v : Byte), hostWrite s0 a v s = .next t →
    (t.symTmr = s.symTmr ∧ t.waitTmr = s.waitTmr) ∨
    (a = 0x01#5 ∧ (v = 0x01#8 ∨ v = 0x02#8) ∧ t.busy = true ∧ s.busy = false ∧ t.symTmr = 0#16 ∧ t.waitTmr = 0#16)

/-- 10_state.md R36: PHASE changes only by the tick rules' transitions, by an accepted command or by an ABORT. -/
def Obligations.PhaseMovesOnlyByItsRules : Prop :=
  (∀ (s : State) (lv : Level), (tickPhase lv s).phase ∈ tickSuccessors s.phase) ∧
  ∀ (s0 s t : State) (a : Addr) (v : Byte), hostWrite s0 a v s = .next t → t.phase ≠ s.phase →
    a = 0x01#5 ∧
      ((v = 0x01#8 ∧ s.busy = false ∧ t.phase = .rxWaitIdle) ∨ (v = 0x02#8 ∧ s.busy = false ∧ t.phase = .txWaitIdle) ∨
        (v = 0x03#8 ∧ s.busy = true ∧ t.phase = .idle))

/-- 10_state.md R40: while an operation stays in flight through a cycle without reset, its operands do not change: CTRL, LEN
and TMO, and BUF too for a transmission; a reception writes no byte of BUF but the one in progress. -/
def Obligations.OperandsDoNotChangeUnderAnOperation : Prop :=
  ∀ s inp s0 t, BlockInv s → takeInput s = (inp, s0) → step s = .next t → inp.rst = false → s.busy = true →
    (if inp.tick then tickPhase (sampled inp.ext s) s0 else s0).busy = true →
    t.strict = s.strict ∧ t.ie = s.ie ∧ t.len = s.len ∧ t.tmoL = s.tmoL ∧ t.tmoH = s.tmoH ∧ t.op = s.op ∧
    (s.op = .transmit → t.buf = s.buf) ∧ ∀ i, i ≠ s.bytes.toNat → bufRead t i = bufRead s i

/-- 44_crc8.md R217: the CRC commands read CRC and CRC_DATA only and write CRC only; the engine neither reads nor writes
CRC or CRC_DATA. -/
def Obligations.CrcUnitAndEngineAreIndependent : Prop :=
  (∀ i ∈ [Instr.crcInit, Instr.crcBit, Instr.crcByte], ∃ f : Byte → Byte → Byte,
    ∀ s, exec i s = .next { s with crc := f s.crc s.crcData }) ∧
  ∀ (s : State) (lv : Level) (c d : Byte),
    tickPhase lv { s with crc := c, crcData := d } = { tickPhase lv s with crc := c, crcData := d }

/-- The outcomes of 42_receiver.md R157 and 60_exceptions.md R261, R262: what a tick can end an operation with, in each
kind of phase. -/
def Obligations.TickOutcomesAreTheListedOnes : Prop :=
  ∀ (s : State) (lv : Level), s.params.Legal → BlockInv s → s.busy = true →
    let t := tickPhase lv s
    t.busy = false →
    t.done = true ∧
    (s.phase.isRx = true →
      (t.result = .ok ∧ t.cause = .none) ∨ (t.result = .noData ∧ t.cause = .none) ∨
      (t.result = .busErr ∧ (t.cause = .sofShort ∨ t.cause = .sofLong ∨ t.cause = .glitch ∨ t.cause = .ambiguous))) ∧
    (s.phase.isTx = true →
      (t.result = .ok ∧ t.cause = .none ∧ t.bytes.toNat = t.len.toNat) ∨
      (t.result = .busErr ∧ (t.cause = .contention ∨ t.cause = .txIdleTimeout)))

/-- 40_classifier.md, CLASSIFY: CLS_RES.BIT and BERR mean what the receiver does. A reception whose data symbol has the
classified polarity and duration raises BusError at its end exactly when BERR = 1, and otherwise shifts in BIT. -/
def Obligations.ClassifyPredictsTheReceiver : Prop :=
  ∀ (s : State) (lv : Level) (c : State), s.phase = .rxData → lv ≠ s.last → s.result = .none → c.params = s.params →
    c.clsCtx = 0#2 → c.clsPol = s.last → c.strict = s.strict → durNat c = s.symTmr.toNat →
    ∃ u, exec .classify c = .next u ∧
      ((tickPhase lv s).result = .busErr ↔ u.clsBerr = true) ∧
      (u.clsBerr = false → (tickPhase lv s).shift = BitVec.ofNat 8 (2 * s.shift.toNat + u.clsBit.toNat))

/-! ### Invariants -/

/-- The reset state satisfies the invariant, whatever the (legal) parameters and the queue are. -/
def Obligations.ResetStateSatisfiesInv : Prop :=
  ∀ (p : Params) (inputs : List CycleInput) (k : Nat), BlockInv (State.resetWith p inputs k)

/-- From EVERY state that meets the invariant, a step answers only states that meet it, whatever the environment does. -/
def Obligations.EveryStepKeepsInv : Prop :=
  ∀ s t : State, BlockInv s → step s = .next t → BlockInv t

/-- 45_control.md, Invariants: the seven clauses hold in every reachable state, for every legal parameter set and every
behaviour of the environment. -/
def Obligations.ReachableStatesAreCoherent : Prop :=
  ∀ s : State, Reachable s → Coherent s

/-- 43_transmitter.md, Properties: in every reachable TX_DATA state the symbol on the bus is number k = 8 BYTES + BITS of
the frame: bit 7 - (k mod 8) of `BUF[k div 8]`, driven Passive when k is even and Active when k is odd, with the length of
that bit and polarity, and not yet at its end. -/
def Obligations.SymbolInFlightIsTheFramesSymbol : Prop :=
  ∀ s : State, Reachable s → s.phase = .txData →
    let k := 8 * s.bytes.toNat + s.bits.toNat
    let pol : Level := if k % 2 = 0 then .passive else .active
    s.drive = pol ∧ s.txPol = pol ∧
    s.txN.toNat = symbolDur s.params ((bufRead s (k / 8)).getLsbD (7 - k % 8)) pol ∧
    s.symTmr.toNat < s.txN.toNat ∧ k < 8 * s.len.toNat

/-! ### CRC-8 -/

/-- 44_crc8.md, equivalent forms: the bit step is the shift register of x^8 + x^4 + x^3 + x^2 + 1. -/
def Obligations.CrcBitIsTheShiftRegister : Prop :=
  ∀ s : State,
    exec .crcBit s = .next
      { s with
        crc := (s.crc <<< 1) ^^^ (if (s.crc.getLsbD 7 ^^ s.crcData.getLsbD 0) = true then 0x1D#8 else 0x00#8) }

/-- 44_crc8.md R213, corner case: CRC_BYTE equals eight CRC_BIT commands with CRC_DATA set in turn to bit 7, 6, .., 0. -/
def Obligations.CrcByteEqualsEightCrcBits : Prop :=
  ∀ s : State,
    let oneBit (t : State) (i : Nat) : State :=
      let u := nextOr t (hostWrite t 0x08#5 (if s.crcData.getLsbD i = true then 0x01#8 else 0x00#8) t)
      nextOr u (exec .crcBit u)
    exec .crcByte s = .next { [7, 6, 5, 4, 3, 2, 1, 0].foldl oneBit s with crcData := s.crcData }

/-- 44_crc8.md, the function crc8: CRC_INIT, then a write of CRC_DATA and a CRC_BYTE per byte, then CRC_OUT, compute
`crc8` of the bytes, for every byte sequence and from every state, and leave CRC_DATA and everything but CRC as written. -/
def Obligations.CrcCommandsComputeCrc8 : Prop :=
  ∀ (m : List Byte) (s : State),
    let feed (t : State) (b : Byte) : State :=
      let u := nextOr t (hostWrite t 0x08#5 b t)
      nextOr u (exec .crcByte u)
    let t := m.foldl feed (nextOr s (exec .crcInit s))
    hostRead t 0x09#5 = crc8 m ∧ t = { s with crc := t.crc, crcData := m.getLastD s.crcData }

/-- 95_test_vectors.md S6.4: appending the CRC of a message gives the residue 0x3B, here for messages of every length. -/
def Obligations.AppendedCrcGivesTheResidue : Prop :=
  ∀ m : List Byte, crc8 (m ++ [crc8 m]) = 0x3B#8

/-- 95_test_vectors.md S6.4, beyond single bits: any change of one byte of a message changes its CRC. -/
def Obligations.CrcDetectsEveryOneByteChange : Prop :=
  ∀ (before after : List Byte) (v w : Byte), v ≠ w → crc8 (before ++ v :: after) ≠ crc8 (before ++ w :: after)

/-! ### Bounds, and two blocks on one bus -/

/-- 42_receiver.md, Outcomes: every accepted RECEIVE ends within max(TMO, 1) + RX_SOF_MAX + 96 (RX_EOD_MIN - 1) ticks, on
every line. For RX_EOD_MIN = 1 the tick rules exceed that figure, so the premise 2 ≤ RX_EOD_MIN (log 15). -/
def Obligations.ReceiveEndsWithinItsBound : Prop :=
  ∀ (s s1 : State) (lvs : List Level), s.params.Legal → 2 ≤ s.params.rxEodMin → s.busy = false →
    exec .receive s = .next s1 →
    let bound := max (tmoNat s) 1 + s.params.rxSofMax + 12 * 8 * (s.params.rxEodMin - 1)
    bound ≤ lvs.length → ∃ k, k ≤ bound ∧ (tickRun (lvs.take k) s1).busy = false

/-- 43_transmitter.md, Properties: every accepted TRANSMIT ends within TX_IDLE_CEIL + TX_SOF + 96 TX_LONG + TX_EOF ticks, on
every line. The figure takes TX_LONG for the longer symbol, so the premise TX_SHORT ≤ TX_LONG (log 15). -/
def Obligations.TransmitEndsWithinItsBound : Prop :=
  ∀ (s s1 : State) (lvs : List Level), s.params.Legal → s.params.txShort ≤ s.params.txLong → s.busy = false →
    1 ≤ s.len.toNat → s.len.toNat ≤ 12 → exec .transmit s = .next s1 →
    let p := s.params
    let bound := p.txIdleCeil + p.txSof + 12 * 8 * p.txLong + p.txEof
    bound ≤ lvs.length → ∃ k, k ≤ bound ∧ (tickRun (lvs.take k) s1).busy = false

/-- 43_transmitter.md, Properties: alone on an idle bus a TRANSMIT is in flight for exactly
RX_IFS_MIN + TX_SOF + Σ dur + TX_EOF ticks and ends with OK and COUNT.BYTES = LEN. The ceiling must not come first (log 15). -/
def Obligations.TransmitOnAnIdleBusTakesExactlyItsTime : Prop :=
  ∀ s s1 : State, s.params.Legal → s.params.rxIfsMin ≤ s.params.txIdleCeil → s.busy = false → s.drive = .passive →
    1 ≤ s.len.toNat → s.len.toNat ≤ 12 → exec .transmit s = .next s1 →
    let n := s.params.rxIfsMin + s.params.txSof + frameDur s.params (bufRead s) s.len.toNat + s.params.txEof
    (∀ m, m < n → (aloneTicks m s1).busy = true) ∧
    (aloneTicks n s1).busy = false ∧ (aloneTicks n s1).done = true ∧ (aloneTicks n s1).result = .ok ∧
    (aloneTicks n s1).bytes.toNat = s.len.toNat

/-- 70_reset_and_hazards.md, Receive timeout: with TMO at most RX_IFS_MIN every RECEIVE ends with NODATA, at tick
max(TMO, 1), on every line. -/
def Obligations.ShortTimeoutAlwaysGivesNoData : Prop :=
  ∀ (s s1 : State) (lvs : List Level), s.params.Legal → tmoNat s ≤ s.params.rxIfsMin → s.busy = false →
    exec .receive s = .next s1 → lvs.length = max (tmoNat s) 1 →
    (∀ k, k < lvs.length → (tickRun (lvs.take k) s1).busy = true) ∧ (tickRun lvs s1).busy = false ∧
    (tickRun lvs s1).result = .noData ∧ (tickRun lvs s1).bytes = 0#4

/-- 43_transmitter.md, Properties, the round trip: X begins to drive its SOF and Y waits for one, on a bus with no other
driver, both with one legal, round-trip-safe parameter set. Then after TX_SOF + Σ dur + TX_EOF ticks both have finished
with OK, and Y holds X's frame, for every payload of 1 to 12 bytes. -/
def Obligations.LoopbackRoundTrip : Prop :=
  ∀ x y : State, x.params = y.params → x.params.Legal → x.params.RoundTripSafe →
    x.phase = .txSof → x.drive = .active → x.symTmr = 0#16 → x.bytes = 0#4 → x.bits = 0#3 →
    1 ≤ x.len.toNat → x.len.toNat ≤ 12 →
    y.phase = .rxWaitSof → y.drive = .passive → y.bytes = 0#4 → y.bits = 0#3 → Memory.wf y.buf = true →
    let n := x.params.txSof + frameDur x.params (bufRead x) x.len.toNat + x.params.txEof
    ∃ x' y', netTicks n [x, y] = [x', y'] ∧
      x'.busy = false ∧ x'.result = .ok ∧ x'.bytes.toNat = x.len.toNat ∧
      y'.busy = false ∧ y'.done = true ∧ y'.result = .ok ∧ y'.bytes.toNat = x.len.toNat ∧
      ∀ i, i < x.len.toNat → bufRead y' i = bufRead x i

/-- 70_reset_and_hazards.md, Round-trip set-up: the same from the commands on. A TRANSMIT on X and a RECEIVE on Y accepted in
one cycle, on an idle bus, with Y's TMO at least RX_IFS_MIN + 1. The ceiling must not come first (log 15). -/
def Obligations.LoopbackFromTheCommands : Prop :=
  ∀ x y x1 y1 : State, x.params = y.params → x.params.Legal → x.params.RoundTripSafe →
    x.params.rxIfsMin ≤ x.params.txIdleCeil → x.busy = false → y.busy = false → x.drive = .passive → y.drive = .passive →
    1 ≤ x.len.toNat → x.len.toNat ≤ 12 → x.params.rxIfsMin + 1 ≤ tmoNat y → Memory.wf y.buf = true →
    exec .transmit x = .next x1 → exec .receive y = .next y1 →
    let n := x.params.rxIfsMin + x.params.txSof + frameDur x.params (bufRead x) x.len.toNat + x.params.txEof
    ∃ x' y', netTicks n [x1, y1] = [x', y'] ∧
      x'.busy = false ∧ x'.result = .ok ∧ x'.bytes.toNat = x.len.toNat ∧
      y'.busy = false ∧ y'.done = true ∧ y'.result = .ok ∧ y'.bytes.toNat = x.len.toNat ∧
      ∀ i, i < x.len.toNat → bufRead y' i = bufRead x i

/-- 60_exceptions.md, multiple instances: two transmitters in step at the start of a Passive symbol that encodes 1 on X and 0
on Y. X reads Y's Active level during its own Passive symbol and aborts with CONTENTION on tick TX_SHORT + 1; Y goes on.
The lengths must differ by two ticks or more, since the last sample is not monitored (43_transmitter.md R184); with
TX_SHORT = 1 Y's next symbol could be over on that tick. -/
def Obligations.LongerPassiveSymbolLosesTheCollision : Prop :=
  ∀ x y : State, x.params = y.params → x.params.Legal → 2 ≤ x.params.txShort →
    x.params.txShort + 1 < x.params.txLong → BlockInv x → BlockInv y →
    x.phase = .txData → y.phase = .txData → x.symTmr = 0#16 → y.symTmr = 0#16 →
    x.txPol = .passive → y.txPol = .passive → x.txN.toNat = x.params.txLong → y.txN.toNat = y.params.txShort →
    ∃ x' y', netTicks (x.params.txShort + 1) [x, y] = [x', y'] ∧
      x'.busy = false ∧ x'.result = .busErr ∧ x'.cause = .contention ∧ x'.drive = .passive ∧
      x'.bytes = x.bytes ∧ x'.bits = x.bits ∧ y'.busy = true ∧ y'.phase = .txData ∧ y'.drive = .active
end

