-- ==== Sys2Proof/Laws/State.lean ====
section
/-! SUPPORT. What each named update does to each field of State: one lemma per field per update, true by rfl. -/

namespace Sys2Proof.Machine

section

variable (s : State)

/-! ### reject -/

@[simp] theorem reject_params : (reject s).params = s.params := rfl
@[simp] theorem reject_strict : (reject s).strict = s.strict := rfl
@[simp] theorem reject_ie : (reject s).ie = s.ie := rfl
@[simp] theorem reject_busy : (reject s).busy = s.busy := rfl
@[simp] theorem reject_done : (reject s).done = s.done := rfl
@[simp] theorem reject_result : (reject s).result = s.result := rfl
@[simp] theorem reject_op : (reject s).op = s.op := rfl
@[simp] theorem reject_rej : (reject s).rej = true := rfl
@[simp] theorem reject_line : (reject s).line = s.line := rfl
@[simp] theorem reject_bytes : (reject s).bytes = s.bytes := rfl
@[simp] theorem reject_bits : (reject s).bits = s.bits := rfl
@[simp] theorem reject_len : (reject s).len = s.len := rfl
@[simp] theorem reject_tmoL : (reject s).tmoL = s.tmoL := rfl
@[simp] theorem reject_tmoH : (reject s).tmoH = s.tmoH := rfl
@[simp] theorem reject_crc : (reject s).crc = s.crc := rfl
@[simp] theorem reject_crcData : (reject s).crcData = s.crcData := rfl
@[simp] theorem reject_durL : (reject s).durL = s.durL := rfl
@[simp] theorem reject_durH : (reject s).durH = s.durH := rfl
@[simp] theorem reject_clsCtx : (reject s).clsCtx = s.clsCtx := rfl
@[simp] theorem reject_clsPol : (reject s).clsPol = s.clsPol := rfl
@[simp] theorem reject_clsCat : (reject s).clsCat = s.clsCat := rfl
@[simp] theorem reject_clsBit : (reject s).clsBit = s.clsBit := rfl
@[simp] theorem reject_clsBerr : (reject s).clsBerr = s.clsBerr := rfl
@[simp] theorem reject_phase : (reject s).phase = s.phase := rfl
@[simp] theorem reject_drive : (reject s).drive = s.drive := rfl
@[simp] theorem reject_cause : (reject s).cause = s.cause := rfl
@[simp] theorem reject_buf : (reject s).buf = s.buf := rfl
@[simp] theorem reject_symTmr : (reject s).symTmr = s.symTmr := rfl
@[simp] theorem reject_waitTmr : (reject s).waitTmr = s.waitTmr := rfl
@[simp] theorem reject_last : (reject s).last = s.last := rfl
@[simp] theorem reject_shift : (reject s).shift = s.shift := rfl
@[simp] theorem reject_txPol : (reject s).txPol = s.txPol := rfl
@[simp] theorem reject_txN : (reject s).txN = s.txN := rfl
@[simp] theorem reject_inputs : (reject s).inputs = s.inputs := rfl
@[simp] theorem reject_freeIdx : (reject s).freeIdx = s.freeIdx := rfl

/-! ### finish -/

@[simp] theorem finish_params (r : ResultCode) (c : Cause) : (finish r c s).params = s.params := rfl
@[simp] theorem finish_strict (r : ResultCode) (c : Cause) : (finish r c s).strict = s.strict := rfl
@[simp] theorem finish_ie (r : ResultCode) (c : Cause) : (finish r c s).ie = s.ie := rfl
@[simp] theorem finish_busy (r : ResultCode) (c : Cause) : (finish r c s).busy = false := rfl
@[simp] theorem finish_done (r : ResultCode) (c : Cause) : (finish r c s).done = true := rfl
@[simp] theorem finish_result (r : ResultCode) (c : Cause) : (finish r c s).result = r := rfl
@[simp] theorem finish_op (r : ResultCode) (c : Cause) : (finish r c s).op = s.op := rfl
@[simp] theorem finish_rej (r : ResultCode) (c : Cause) : (finish r c s).rej = s.rej := rfl
@[simp] theorem finish_line (r : ResultCode) (c : Cause) : (finish r c s).line = s.line := rfl
@[simp] theorem finish_bytes (r : ResultCode) (c : Cause) : (finish r c s).bytes = s.bytes := rfl
@[simp] theorem finish_bits (r : ResultCode) (c : Cause) : (finish r c s).bits = s.bits := rfl
@[simp] theorem finish_len (r : ResultCode) (c : Cause) : (finish r c s).len = s.len := rfl
@[simp] theorem finish_tmoL (r : ResultCode) (c : Cause) : (finish r c s).tmoL = s.tmoL := rfl
@[simp] theorem finish_tmoH (r : ResultCode) (c : Cause) : (finish r c s).tmoH = s.tmoH := rfl
@[simp] theorem finish_crc (r : ResultCode) (c : Cause) : (finish r c s).crc = s.crc := rfl
@[simp] theorem finish_crcData (r : ResultCode) (c : Cause) : (finish r c s).crcData = s.crcData := rfl
@[simp] theorem finish_durL (r : ResultCode) (c : Cause) : (finish r c s).durL = s.durL := rfl
@[simp] theorem finish_durH (r : ResultCode) (c : Cause) : (finish r c s).durH = s.durH := rfl
@[simp] theorem finish_clsCtx (r : ResultCode) (c : Cause) : (finish r c s).clsCtx = s.clsCtx := rfl
@[simp] theorem finish_clsPol (r : ResultCode) (c : Cause) : (finish r c s).clsPol = s.clsPol := rfl
@[simp] theorem finish_clsCat (r : ResultCode) (c : Cause) : (finish r c s).clsCat = s.clsCat := rfl
@[simp] theorem finish_clsBit (r : ResultCode) (c : Cause) : (finish r c s).clsBit = s.clsBit := rfl
@[simp] theorem finish_clsBerr (r : ResultCode) (c : Cause) : (finish r c s).clsBerr = s.clsBerr := rfl
@[simp] theorem finish_phase (r : ResultCode) (c : Cause) : (finish r c s).phase = .idle := rfl
@[simp] theorem finish_drive (r : ResultCode) (c : Cause) : (finish r c s).drive = .passive := rfl
@[simp] theorem finish_cause (r : ResultCode) (c : Cause) : (finish r c s).cause = c := rfl
@[simp] theorem finish_buf (r : ResultCode) (c : Cause) : (finish r c s).buf = s.buf := rfl
@[simp] theorem finish_symTmr (r : ResultCode) (c : Cause) : (finish r c s).symTmr = s.symTmr := rfl
@[simp] theorem finish_waitTmr (r : ResultCode) (c : Cause) : (finish r c s).waitTmr = s.waitTmr := rfl
@[simp] theorem finish_last (r : ResultCode) (c : Cause) : (finish r c s).last = s.last := rfl
@[simp] theorem finish_shift (r : ResultCode) (c : Cause) : (finish r c s).shift = s.shift := rfl
@[simp] theorem finish_txPol (r : ResultCode) (c : Cause) : (finish r c s).txPol = s.txPol := rfl
@[simp] theorem finish_txN (r : ResultCode) (c : Cause) : (finish r c s).txN = s.txN := rfl
@[simp] theorem finish_inputs (r : ResultCode) (c : Cause) : (finish r c s).inputs = s.inputs := rfl
@[simp] theorem finish_freeIdx (r : ResultCode) (c : Cause) : (finish r c s).freeIdx = s.freeIdx := rfl

/-! ### sampleLine -/

@[simp] theorem sampleLine_params (lv : Level) : (sampleLine s lv).params = s.params := rfl
@[simp] theorem sampleLine_strict (lv : Level) : (sampleLine s lv).strict = s.strict := rfl
@[simp] theorem sampleLine_ie (lv : Level) : (sampleLine s lv).ie = s.ie := rfl
@[simp] theorem sampleLine_busy (lv : Level) : (sampleLine s lv).busy = s.busy := rfl
@[simp] theorem sampleLine_done (lv : Level) : (sampleLine s lv).done = s.done := rfl
@[simp] theorem sampleLine_result (lv : Level) : (sampleLine s lv).result = s.result := rfl
@[simp] theorem sampleLine_op (lv : Level) : (sampleLine s lv).op = s.op := rfl
@[simp] theorem sampleLine_rej (lv : Level) : (sampleLine s lv).rej = s.rej := rfl
@[simp] theorem sampleLine_line (lv : Level) : (sampleLine s lv).line = lv := rfl
@[simp] theorem sampleLine_bytes (lv : Level) : (sampleLine s lv).bytes = s.bytes := rfl
@[simp] theorem sampleLine_bits (lv : Level) : (sampleLine s lv).bits = s.bits := rfl
@[simp] theorem sampleLine_len (lv : Level) : (sampleLine s lv).len = s.len := rfl
@[simp] theorem sampleLine_tmoL (lv : Level) : (sampleLine s lv).tmoL = s.tmoL := rfl
@[simp] theorem sampleLine_tmoH (lv : Level) : (sampleLine s lv).tmoH = s.tmoH := rfl
@[simp] theorem sampleLine_crc (lv : Level) : (sampleLine s lv).crc = s.crc := rfl
@[simp] theorem sampleLine_crcData (lv : Level) : (sampleLine s lv).crcData = s.crcData := rfl
@[simp] theorem sampleLine_durL (lv : Level) : (sampleLine s lv).durL = s.durL := rfl
@[simp] theorem sampleLine_durH (lv : Level) : (sampleLine s lv).durH = s.durH := rfl
@[simp] theorem sampleLine_clsCtx (lv : Level) : (sampleLine s lv).clsCtx = s.clsCtx := rfl
@[simp] theorem sampleLine_clsPol (lv : Level) : (sampleLine s lv).clsPol = s.clsPol := rfl
@[simp] theorem sampleLine_clsCat (lv : Level) : (sampleLine s lv).clsCat = s.clsCat := rfl
@[simp] theorem sampleLine_clsBit (lv : Level) : (sampleLine s lv).clsBit = s.clsBit := rfl
@[simp] theorem sampleLine_clsBerr (lv : Level) : (sampleLine s lv).clsBerr = s.clsBerr := rfl
@[simp] theorem sampleLine_phase (lv : Level) : (sampleLine s lv).phase = s.phase := rfl
@[simp] theorem sampleLine_drive (lv : Level) : (sampleLine s lv).drive = s.drive := rfl
@[simp] theorem sampleLine_cause (lv : Level) : (sampleLine s lv).cause = s.cause := rfl
@[simp] theorem sampleLine_buf (lv : Level) : (sampleLine s lv).buf = s.buf := rfl
@[simp] theorem sampleLine_symTmr (lv : Level) : (sampleLine s lv).symTmr = s.symTmr := rfl
@[simp] theorem sampleLine_waitTmr (lv : Level) : (sampleLine s lv).waitTmr = s.waitTmr := rfl
@[simp] theorem sampleLine_last (lv : Level) : (sampleLine s lv).last = s.last := rfl
@[simp] theorem sampleLine_shift (lv : Level) : (sampleLine s lv).shift = s.shift := rfl
@[simp] theorem sampleLine_txPol (lv : Level) : (sampleLine s lv).txPol = s.txPol := rfl
@[simp] theorem sampleLine_txN (lv : Level) : (sampleLine s lv).txN = s.txN := rfl
@[simp] theorem sampleLine_inputs (lv : Level) : (sampleLine s lv).inputs = s.inputs := rfl
@[simp] theorem sampleLine_freeIdx (lv : Level) : (sampleLine s lv).freeIdx = s.freeIdx := rfl

/-! ### claim -/

@[simp] theorem claim_params (o : Operation) : (claim o s).params = s.params := rfl
@[simp] theorem claim_strict (o : Operation) : (claim o s).strict = s.strict := rfl
@[simp] theorem claim_ie (o : Operation) : (claim o s).ie = s.ie := rfl
@[simp] theorem claim_busy (o : Operation) : (claim o s).busy = s.busy := rfl
@[simp] theorem claim_done (o : Operation) : (claim o s).done = s.done := rfl
@[simp] theorem claim_result (o : Operation) : (claim o s).result = s.result := rfl
@[simp] theorem claim_op (o : Operation) : (claim o s).op = o := rfl
@[simp] theorem claim_rej (o : Operation) : (claim o s).rej = s.rej := rfl
@[simp] theorem claim_line (o : Operation) : (claim o s).line = s.line := rfl
@[simp] theorem claim_bytes (o : Operation) : (claim o s).bytes = 0#4 := rfl
@[simp] theorem claim_bits (o : Operation) : (claim o s).bits = 0#3 := rfl
@[simp] theorem claim_len (o : Operation) : (claim o s).len = s.len := rfl
@[simp] theorem claim_tmoL (o : Operation) : (claim o s).tmoL = s.tmoL := rfl
@[simp] theorem claim_tmoH (o : Operation) : (claim o s).tmoH = s.tmoH := rfl
@[simp] theorem claim_crc (o : Operation) : (claim o s).crc = s.crc := rfl
@[simp] theorem claim_crcData (o : Operation) : (claim o s).crcData = s.crcData := rfl
@[simp] theorem claim_durL (o : Operation) : (claim o s).durL = s.durL := rfl
@[simp] theorem claim_durH (o : Operation) : (claim o s).durH = s.durH := rfl
@[simp] theorem claim_clsCtx (o : Operation) : (claim o s).clsCtx = s.clsCtx := rfl
@[simp] theorem claim_clsPol (o : Operation) : (claim o s).clsPol = s.clsPol := rfl
@[simp] theorem claim_clsCat (o : Operation) : (claim o s).clsCat = s.clsCat := rfl
@[simp] theorem claim_clsBit (o : Operation) : (claim o s).clsBit = s.clsBit := rfl
@[simp] theorem claim_clsBerr (o : Operation) : (claim o s).clsBerr = s.clsBerr := rfl
@[simp] theorem claim_phase (o : Operation) : (claim o s).phase = s.phase := rfl
@[simp] theorem claim_drive (o : Operation) : (claim o s).drive = s.drive := rfl
@[simp] theorem claim_cause (o : Operation) : (claim o s).cause = .none := rfl
@[simp] theorem claim_buf (o : Operation) : (claim o s).buf = s.buf := rfl
@[simp] theorem claim_symTmr (o : Operation) : (claim o s).symTmr = s.symTmr := rfl
@[simp] theorem claim_waitTmr (o : Operation) : (claim o s).waitTmr = s.waitTmr := rfl
@[simp] theorem claim_last (o : Operation) : (claim o s).last = s.last := rfl
@[simp] theorem claim_shift (o : Operation) : (claim o s).shift = s.shift := rfl
@[simp] theorem claim_txPol (o : Operation) : (claim o s).txPol = s.txPol := rfl
@[simp] theorem claim_txN (o : Operation) : (claim o s).txN = s.txN := rfl
@[simp] theorem claim_inputs (o : Operation) : (claim o s).inputs = s.inputs := rfl
@[simp] theorem claim_freeIdx (o : Operation) : (claim o s).freeIdx = s.freeIdx := rfl

/-! ### launch -/

@[simp] theorem launch_params (p : Phase) : (launch p s).params = s.params := rfl
@[simp] theorem launch_strict (p : Phase) : (launch p s).strict = s.strict := rfl
@[simp] theorem launch_ie (p : Phase) : (launch p s).ie = s.ie := rfl
@[simp] theorem launch_busy (p : Phase) : (launch p s).busy = true := rfl
@[simp] theorem launch_done (p : Phase) : (launch p s).done = false := rfl
@[simp] theorem launch_result (p : Phase) : (launch p s).result = .none := rfl
@[simp] theorem launch_op (p : Phase) : (launch p s).op = s.op := rfl
@[simp] theorem launch_rej (p : Phase) : (launch p s).rej = s.rej := rfl
@[simp] theorem launch_line (p : Phase) : (launch p s).line = s.line := rfl
@[simp] theorem launch_bytes (p : Phase) : (launch p s).bytes = s.bytes := rfl
@[simp] theorem launch_bits (p : Phase) : (launch p s).bits = s.bits := rfl
@[simp] theorem launch_len (p : Phase) : (launch p s).len = s.len := rfl
@[simp] theorem launch_tmoL (p : Phase) : (launch p s).tmoL = s.tmoL := rfl
@[simp] theorem launch_tmoH (p : Phase) : (launch p s).tmoH = s.tmoH := rfl
@[simp] theorem launch_crc (p : Phase) : (launch p s).crc = s.crc := rfl
@[simp] theorem launch_crcData (p : Phase) : (launch p s).crcData = s.crcData := rfl
@[simp] theorem launch_durL (p : Phase) : (launch p s).durL = s.durL := rfl
@[simp] theorem launch_durH (p : Phase) : (launch p s).durH = s.durH := rfl
@[simp] theorem launch_clsCtx (p : Phase) : (launch p s).clsCtx = s.clsCtx := rfl
@[simp] theorem launch_clsPol (p : Phase) : (launch p s).clsPol = s.clsPol := rfl
@[simp] theorem launch_clsCat (p : Phase) : (launch p s).clsCat = s.clsCat := rfl
@[simp] theorem launch_clsBit (p : Phase) : (launch p s).clsBit = s.clsBit := rfl
@[simp] theorem launch_clsBerr (p : Phase) : (launch p s).clsBerr = s.clsBerr := rfl
@[simp] theorem launch_phase (p : Phase) : (launch p s).phase = p := rfl
@[simp] theorem launch_drive (p : Phase) : (launch p s).drive = s.drive := rfl
@[simp] theorem launch_cause (p : Phase) : (launch p s).cause = s.cause := rfl
@[simp] theorem launch_buf (p : Phase) : (launch p s).buf = s.buf := rfl
@[simp] theorem launch_symTmr (p : Phase) : (launch p s).symTmr = 0#16 := rfl
@[simp] theorem launch_waitTmr (p : Phase) : (launch p s).waitTmr = 0#16 := rfl
@[simp] theorem launch_last (p : Phase) : (launch p s).last = s.last := rfl
@[simp] theorem launch_shift (p : Phase) : (launch p s).shift = s.shift := rfl
@[simp] theorem launch_txPol (p : Phase) : (launch p s).txPol = s.txPol := rfl
@[simp] theorem launch_txN (p : Phase) : (launch p s).txN = s.txN := rfl
@[simp] theorem launch_inputs (p : Phase) : (launch p s).inputs = s.inputs := rfl
@[simp] theorem launch_freeIdx (p : Phase) : (launch p s).freeIdx = s.freeIdx := rfl

/-! ### raiseDataError -/

@[simp] theorem raiseDataError_params : (raiseDataError s).params = s.params := rfl
@[simp] theorem raiseDataError_strict : (raiseDataError s).strict = s.strict := rfl
@[simp] theorem raiseDataError_ie : (raiseDataError s).ie = s.ie := rfl
@[simp] theorem raiseDataError_busy : (raiseDataError s).busy = s.busy := rfl
@[simp] theorem raiseDataError_done : (raiseDataError s).done = true := rfl
@[simp] theorem raiseDataError_result : (raiseDataError s).result = .dataErr := rfl
@[simp] theorem raiseDataError_op : (raiseDataError s).op = s.op := rfl
@[simp] theorem raiseDataError_rej : (raiseDataError s).rej = s.rej := rfl
@[simp] theorem raiseDataError_line : (raiseDataError s).line = s.line := rfl
@[simp] theorem raiseDataError_bytes : (raiseDataError s).bytes = s.bytes := rfl
@[simp] theorem raiseDataError_bits : (raiseDataError s).bits = s.bits := rfl
@[simp] theorem raiseDataError_len : (raiseDataError s).len = s.len := rfl
@[simp] theorem raiseDataError_tmoL : (raiseDataError s).tmoL = s.tmoL := rfl
@[simp] theorem raiseDataError_tmoH : (raiseDataError s).tmoH = s.tmoH := rfl
@[simp] theorem raiseDataError_crc : (raiseDataError s).crc = s.crc := rfl
@[simp] theorem raiseDataError_crcData : (raiseDataError s).crcData = s.crcData := rfl
@[simp] theorem raiseDataError_durL : (raiseDataError s).durL = s.durL := rfl
@[simp] theorem raiseDataError_durH : (raiseDataError s).durH = s.durH := rfl
@[simp] theorem raiseDataError_clsCtx : (raiseDataError s).clsCtx = s.clsCtx := rfl
@[simp] theorem raiseDataError_clsPol : (raiseDataError s).clsPol = s.clsPol := rfl
@[simp] theorem raiseDataError_clsCat : (raiseDataError s).clsCat = s.clsCat := rfl
@[simp] theorem raiseDataError_clsBit : (raiseDataError s).clsBit = s.clsBit := rfl
@[simp] theorem raiseDataError_clsBerr : (raiseDataError s).clsBerr = s.clsBerr := rfl
@[simp] theorem raiseDataError_phase : (raiseDataError s).phase = s.phase := rfl
@[simp] theorem raiseDataError_drive : (raiseDataError s).drive = s.drive := rfl
@[simp] theorem raiseDataError_cause : (raiseDataError s).cause = s.cause := rfl
@[simp] theorem raiseDataError_buf : (raiseDataError s).buf = s.buf := rfl
@[simp] theorem raiseDataError_symTmr : (raiseDataError s).symTmr = s.symTmr := rfl
@[simp] theorem raiseDataError_waitTmr : (raiseDataError s).waitTmr = s.waitTmr := rfl
@[simp] theorem raiseDataError_last : (raiseDataError s).last = s.last := rfl
@[simp] theorem raiseDataError_shift : (raiseDataError s).shift = s.shift := rfl
@[simp] theorem raiseDataError_txPol : (raiseDataError s).txPol = s.txPol := rfl
@[simp] theorem raiseDataError_txN : (raiseDataError s).txN = s.txN := rfl
@[simp] theorem raiseDataError_inputs : (raiseDataError s).inputs = s.inputs := rfl
@[simp] theorem raiseDataError_freeIdx : (raiseDataError s).freeIdx = s.freeIdx := rfl

/-! ### setClsRes -/

@[simp] theorem setClsRes_params (cat : Category) (bit berr : Bool) : (setClsRes cat bit berr s).params = s.params := rfl
@[simp] theorem setClsRes_strict (cat : Category) (bit berr : Bool) : (setClsRes cat bit berr s).strict = s.strict := rfl
@[simp] theorem setClsRes_ie (cat : Category) (bit berr : Bool) : (setClsRes cat bit berr s).ie = s.ie := rfl
@[simp] theorem setClsRes_busy (cat : Category) (bit berr : Bool) : (setClsRes cat bit berr s).busy = s.busy := rfl
@[simp] theorem setClsRes_done (cat : Category) (bit berr : Bool) : (setClsRes cat bit berr s).done = s.done := rfl
@[simp] theorem setClsRes_result (cat : Category) (bit berr : Bool) : (setClsRes cat bit berr s).result = s.result := rfl
@[simp] theorem setClsRes_op (cat : Category) (bit berr : Bool) : (setClsRes cat bit berr s).op = s.op := rfl
@[simp] theorem setClsRes_rej (cat : Category) (bit berr : Bool) : (setClsRes cat bit berr s).rej = s.rej := rfl
@[simp] theorem setClsRes_line (cat : Category) (bit berr : Bool) : (setClsRes cat bit berr s).line = s.line := rfl
@[simp] theorem setClsRes_bytes (cat : Category) (bit berr : Bool) : (setClsRes cat bit berr s).bytes = s.bytes := rfl
@[simp] theorem setClsRes_bits (cat : Category) (bit berr : Bool) : (setClsRes cat bit berr s).bits = s.bits := rfl
@[simp] theorem setClsRes_len (cat : Category) (bit berr : Bool) : (setClsRes cat bit berr s).len = s.len := rfl
@[simp] theorem setClsRes_tmoL (cat : Category) (bit berr : Bool) : (setClsRes cat bit berr s).tmoL = s.tmoL := rfl
@[simp] theorem setClsRes_tmoH (cat : Category) (bit berr : Bool) : (setClsRes cat bit berr s).tmoH = s.tmoH := rfl
@[simp] theorem setClsRes_crc (cat : Category) (bit berr : Bool) : (setClsRes cat bit berr s).crc = s.crc := rfl
@[simp] theorem setClsRes_crcData (cat : Category) (bit berr : Bool) : (setClsRes cat bit berr s).crcData = s.crcData := rfl
@[simp] theorem setClsRes_durL (cat : Category) (bit berr : Bool) : (setClsRes cat bit berr s).durL = s.durL := rfl
@[simp] theorem setClsRes_durH (cat : Category) (bit berr : Bool) : (setClsRes cat bit berr s).durH = s.durH := rfl
@[simp] theorem setClsRes_clsCtx (cat : Category) (bit berr : Bool) : (setClsRes cat bit berr s).clsCtx = s.clsCtx := rfl
@[simp] theorem setClsRes_clsPol (cat : Category) (bit berr : Bool) : (setClsRes cat bit berr s).clsPol = s.clsPol := rfl
@[simp] theorem setClsRes_clsCat (cat : Category) (bit berr : Bool) : (setClsRes cat bit berr s).clsCat = cat := rfl
@[simp] theorem setClsRes_clsBit (cat : Category) (bit berr : Bool) : (setClsRes cat bit berr s).clsBit = bit := rfl
@[simp] theorem setClsRes_clsBerr (cat : Category) (bit berr : Bool) : (setClsRes cat bit berr s).clsBerr = berr := rfl
@[simp] theorem setClsRes_phase (cat : Category) (bit berr : Bool) : (setClsRes cat bit berr s).phase = s.phase := rfl
@[simp] theorem setClsRes_drive (cat : Category) (bit berr : Bool) : (setClsRes cat bit berr s).drive = s.drive := rfl
@[simp] theorem setClsRes_cause (cat : Category) (bit berr : Bool) : (setClsRes cat bit berr s).cause = s.cause := rfl
@[simp] theorem setClsRes_buf (cat : Category) (bit berr : Bool) : (setClsRes cat bit berr s).buf = s.buf := rfl
@[simp] theorem setClsRes_symTmr (cat : Category) (bit berr : Bool) : (setClsRes cat bit berr s).symTmr = s.symTmr := rfl
@[simp] theorem setClsRes_waitTmr (cat : Category) (bit berr : Bool) : (setClsRes cat bit berr s).waitTmr = s.waitTmr := rfl
@[simp] theorem setClsRes_last (cat : Category) (bit berr : Bool) : (setClsRes cat bit berr s).last = s.last := rfl
@[simp] theorem setClsRes_shift (cat : Category) (bit berr : Bool) : (setClsRes cat bit berr s).shift = s.shift := rfl
@[simp] theorem setClsRes_txPol (cat : Category) (bit berr : Bool) : (setClsRes cat bit berr s).txPol = s.txPol := rfl
@[simp] theorem setClsRes_txN (cat : Category) (bit berr : Bool) : (setClsRes cat bit berr s).txN = s.txN := rfl
@[simp] theorem setClsRes_inputs (cat : Category) (bit berr : Bool) : (setClsRes cat bit berr s).inputs = s.inputs := rfl
@[simp] theorem setClsRes_freeIdx (cat : Category) (bit berr : Bool) : (setClsRes cat bit berr s).freeIdx = s.freeIdx := rfl

/-! ### writeCtrl -/

@[simp] theorem writeCtrl_params (v : Byte) : (writeCtrl v s).params = s.params := rfl
@[simp] theorem writeCtrl_strict (v : Byte) : (writeCtrl v s).strict = v.getLsbD 0 := rfl
@[simp] theorem writeCtrl_ie (v : Byte) : (writeCtrl v s).ie = v.getLsbD 1 := rfl
@[simp] theorem writeCtrl_busy (v : Byte) : (writeCtrl v s).busy = s.busy := rfl
@[simp] theorem writeCtrl_done (v : Byte) : (writeCtrl v s).done = s.done := rfl
@[simp] theorem writeCtrl_result (v : Byte) : (writeCtrl v s).result = s.result := rfl
@[simp] theorem writeCtrl_op (v : Byte) : (writeCtrl v s).op = s.op := rfl
@[simp] theorem writeCtrl_rej (v : Byte) : (writeCtrl v s).rej = s.rej := rfl
@[simp] theorem writeCtrl_line (v : Byte) : (writeCtrl v s).line = s.line := rfl
@[simp] theorem writeCtrl_bytes (v : Byte) : (writeCtrl v s).bytes = s.bytes := rfl
@[simp] theorem writeCtrl_bits (v : Byte) : (writeCtrl v s).bits = s.bits := rfl
@[simp] theorem writeCtrl_len (v : Byte) : (writeCtrl v s).len = s.len := rfl
@[simp] theorem writeCtrl_tmoL (v : Byte) : (writeCtrl v s).tmoL = s.tmoL := rfl
@[simp] theorem writeCtrl_tmoH (v : Byte) : (writeCtrl v s).tmoH = s.tmoH := rfl
@[simp] theorem writeCtrl_crc (v : Byte) : (writeCtrl v s).crc = s.crc := rfl
@[simp] theorem writeCtrl_crcData (v : Byte) : (writeCtrl v s).crcData = s.crcData := rfl
@[simp] theorem writeCtrl_durL (v : Byte) : (writeCtrl v s).durL = s.durL := rfl
@[simp] theorem writeCtrl_durH (v : Byte) : (writeCtrl v s).durH = s.durH := rfl
@[simp] theorem writeCtrl_clsCtx (v : Byte) : (writeCtrl v s).clsCtx = s.clsCtx := rfl
@[simp] theorem writeCtrl_clsPol (v : Byte) : (writeCtrl v s).clsPol = s.clsPol := rfl
@[simp] theorem writeCtrl_clsCat (v : Byte) : (writeCtrl v s).clsCat = s.clsCat := rfl
@[simp] theorem writeCtrl_clsBit (v : Byte) : (writeCtrl v s).clsBit = s.clsBit := rfl
@[simp] theorem writeCtrl_clsBerr (v : Byte) : (writeCtrl v s).clsBerr = s.clsBerr := rfl
@[simp] theorem writeCtrl_phase (v : Byte) : (writeCtrl v s).phase = s.phase := rfl
@[simp] theorem writeCtrl_drive (v : Byte) : (writeCtrl v s).drive = s.drive := rfl
@[simp] theorem writeCtrl_cause (v : Byte) : (writeCtrl v s).cause = s.cause := rfl
@[simp] theorem writeCtrl_buf (v : Byte) : (writeCtrl v s).buf = s.buf := rfl
@[simp] theorem writeCtrl_symTmr (v : Byte) : (writeCtrl v s).symTmr = s.symTmr := rfl
@[simp] theorem writeCtrl_waitTmr (v : Byte) : (writeCtrl v s).waitTmr = s.waitTmr := rfl
@[simp] theorem writeCtrl_last (v : Byte) : (writeCtrl v s).last = s.last := rfl
@[simp] theorem writeCtrl_shift (v : Byte) : (writeCtrl v s).shift = s.shift := rfl
@[simp] theorem writeCtrl_txPol (v : Byte) : (writeCtrl v s).txPol = s.txPol := rfl
@[simp] theorem writeCtrl_txN (v : Byte) : (writeCtrl v s).txN = s.txN := rfl
@[simp] theorem writeCtrl_inputs (v : Byte) : (writeCtrl v s).inputs = s.inputs := rfl
@[simp] theorem writeCtrl_freeIdx (v : Byte) : (writeCtrl v s).freeIdx = s.freeIdx := rfl

/-! ### writeClsCfg -/

@[simp] theorem writeClsCfg_params (v : Byte) : (writeClsCfg v s).params = s.params := rfl
@[simp] theorem writeClsCfg_strict (v : Byte) : (writeClsCfg v s).strict = s.strict := rfl
@[simp] theorem writeClsCfg_ie (v : Byte) : (writeClsCfg v s).ie = s.ie := rfl
@[simp] theorem writeClsCfg_busy (v : Byte) : (writeClsCfg v s).busy = s.busy := rfl
@[simp] theorem writeClsCfg_done (v : Byte) : (writeClsCfg v s).done = s.done := rfl
@[simp] theorem writeClsCfg_result (v : Byte) : (writeClsCfg v s).result = s.result := rfl
@[simp] theorem writeClsCfg_op (v : Byte) : (writeClsCfg v s).op = s.op := rfl
@[simp] theorem writeClsCfg_rej (v : Byte) : (writeClsCfg v s).rej = s.rej := rfl
@[simp] theorem writeClsCfg_line (v : Byte) : (writeClsCfg v s).line = s.line := rfl
@[simp] theorem writeClsCfg_bytes (v : Byte) : (writeClsCfg v s).bytes = s.bytes := rfl
@[simp] theorem writeClsCfg_bits (v : Byte) : (writeClsCfg v s).bits = s.bits := rfl
@[simp] theorem writeClsCfg_len (v : Byte) : (writeClsCfg v s).len = s.len := rfl
@[simp] theorem writeClsCfg_tmoL (v : Byte) : (writeClsCfg v s).tmoL = s.tmoL := rfl
@[simp] theorem writeClsCfg_tmoH (v : Byte) : (writeClsCfg v s).tmoH = s.tmoH := rfl
@[simp] theorem writeClsCfg_crc (v : Byte) : (writeClsCfg v s).crc = s.crc := rfl
@[simp] theorem writeClsCfg_crcData (v : Byte) : (writeClsCfg v s).crcData = s.crcData := rfl
@[simp] theorem writeClsCfg_durL (v : Byte) : (writeClsCfg v s).durL = s.durL := rfl
@[simp] theorem writeClsCfg_durH (v : Byte) : (writeClsCfg v s).durH = s.durH := rfl
@[simp] theorem writeClsCfg_clsCtx (v : Byte) : (writeClsCfg v s).clsCtx = v.extractLsb' 0 2 := rfl
@[simp] theorem writeClsCfg_clsPol (v : Byte) : (writeClsCfg v s).clsPol = Level.ofBool (v.getLsbD 2) := rfl
@[simp] theorem writeClsCfg_clsCat (v : Byte) : (writeClsCfg v s).clsCat = s.clsCat := rfl
@[simp] theorem writeClsCfg_clsBit (v : Byte) : (writeClsCfg v s).clsBit = s.clsBit := rfl
@[simp] theorem writeClsCfg_clsBerr (v : Byte) : (writeClsCfg v s).clsBerr = s.clsBerr := rfl
@[simp] theorem writeClsCfg_phase (v : Byte) : (writeClsCfg v s).phase = s.phase := rfl
@[simp] theorem writeClsCfg_drive (v : Byte) : (writeClsCfg v s).drive = s.drive := rfl
@[simp] theorem writeClsCfg_cause (v : Byte) : (writeClsCfg v s).cause = s.cause := rfl
@[simp] theorem writeClsCfg_buf (v : Byte) : (writeClsCfg v s).buf = s.buf := rfl
@[simp] theorem writeClsCfg_symTmr (v : Byte) : (writeClsCfg v s).symTmr = s.symTmr := rfl
@[simp] theorem writeClsCfg_waitTmr (v : Byte) : (writeClsCfg v s).waitTmr = s.waitTmr := rfl
@[simp] theorem writeClsCfg_last (v : Byte) : (writeClsCfg v s).last = s.last := rfl
@[simp] theorem writeClsCfg_shift (v : Byte) : (writeClsCfg v s).shift = s.shift := rfl
@[simp] theorem writeClsCfg_txPol (v : Byte) : (writeClsCfg v s).txPol = s.txPol := rfl
@[simp] theorem writeClsCfg_txN (v : Byte) : (writeClsCfg v s).txN = s.txN := rfl
@[simp] theorem writeClsCfg_inputs (v : Byte) : (writeClsCfg v s).inputs = s.inputs := rfl
@[simp] theorem writeClsCfg_freeIdx (v : Byte) : (writeClsCfg v s).freeIdx = s.freeIdx := rfl

/-! ### statusW1C -/

@[simp] theorem statusW1C_params (s0 : State) (v : Byte) : (statusW1C s0 v s).params = s.params := rfl
@[simp] theorem statusW1C_strict (s0 : State) (v : Byte) : (statusW1C s0 v s).strict = s.strict := rfl
@[simp] theorem statusW1C_ie (s0 : State) (v : Byte) : (statusW1C s0 v s).ie = s.ie := rfl
@[simp] theorem statusW1C_busy (s0 : State) (v : Byte) : (statusW1C s0 v s).busy = s.busy := rfl
@[simp] theorem statusW1C_done (s0 : State) (v : Byte) : (statusW1C s0 v s).done = if v.getLsbD 1 && s0.done then false else s.done := rfl
@[simp] theorem statusW1C_result (s0 : State) (v : Byte) : (statusW1C s0 v s).result = s.result := rfl
@[simp] theorem statusW1C_op (s0 : State) (v : Byte) : (statusW1C s0 v s).op = s.op := rfl
@[simp] theorem statusW1C_rej (s0 : State) (v : Byte) : (statusW1C s0 v s).rej = if v.getLsbD 6 && s0.rej then false else s.rej := rfl
@[simp] theorem statusW1C_line (s0 : State) (v : Byte) : (statusW1C s0 v s).line = s.line := rfl
@[simp] theorem statusW1C_bytes (s0 : State) (v : Byte) : (statusW1C s0 v s).bytes = s.bytes := rfl
@[simp] theorem statusW1C_bits (s0 : State) (v : Byte) : (statusW1C s0 v s).bits = s.bits := rfl
@[simp] theorem statusW1C_len (s0 : State) (v : Byte) : (statusW1C s0 v s).len = s.len := rfl
@[simp] theorem statusW1C_tmoL (s0 : State) (v : Byte) : (statusW1C s0 v s).tmoL = s.tmoL := rfl
@[simp] theorem statusW1C_tmoH (s0 : State) (v : Byte) : (statusW1C s0 v s).tmoH = s.tmoH := rfl
@[simp] theorem statusW1C_crc (s0 : State) (v : Byte) : (statusW1C s0 v s).crc = s.crc := rfl
@[simp] theorem statusW1C_crcData (s0 : State) (v : Byte) : (statusW1C s0 v s).crcData = s.crcData := rfl
@[simp] theorem statusW1C_durL (s0 : State) (v : Byte) : (statusW1C s0 v s).durL = s.durL := rfl
@[simp] theorem statusW1C_durH (s0 : State) (v : Byte) : (statusW1C s0 v s).durH = s.durH := rfl
@[simp] theorem statusW1C_clsCtx (s0 : State) (v : Byte) : (statusW1C s0 v s).clsCtx = s.clsCtx := rfl
@[simp] theorem statusW1C_clsPol (s0 : State) (v : Byte) : (statusW1C s0 v s).clsPol = s.clsPol := rfl
@[simp] theorem statusW1C_clsCat (s0 : State) (v : Byte) : (statusW1C s0 v s).clsCat = s.clsCat := rfl
@[simp] theorem statusW1C_clsBit (s0 : State) (v : Byte) : (statusW1C s0 v s).clsBit = s.clsBit := rfl
@[simp] theorem statusW1C_clsBerr (s0 : State) (v : Byte) : (statusW1C s0 v s).clsBerr = s.clsBerr := rfl
@[simp] theorem statusW1C_phase (s0 : State) (v : Byte) : (statusW1C s0 v s).phase = s.phase := rfl
@[simp] theorem statusW1C_drive (s0 : State) (v : Byte) : (statusW1C s0 v s).drive = s.drive := rfl
@[simp] theorem statusW1C_cause (s0 : State) (v : Byte) : (statusW1C s0 v s).cause = s.cause := rfl
@[simp] theorem statusW1C_buf (s0 : State) (v : Byte) : (statusW1C s0 v s).buf = s.buf := rfl
@[simp] theorem statusW1C_symTmr (s0 : State) (v : Byte) : (statusW1C s0 v s).symTmr = s.symTmr := rfl
@[simp] theorem statusW1C_waitTmr (s0 : State) (v : Byte) : (statusW1C s0 v s).waitTmr = s.waitTmr := rfl
@[simp] theorem statusW1C_last (s0 : State) (v : Byte) : (statusW1C s0 v s).last = s.last := rfl
@[simp] theorem statusW1C_shift (s0 : State) (v : Byte) : (statusW1C s0 v s).shift = s.shift := rfl
@[simp] theorem statusW1C_txPol (s0 : State) (v : Byte) : (statusW1C s0 v s).txPol = s.txPol := rfl
@[simp] theorem statusW1C_txN (s0 : State) (v : Byte) : (statusW1C s0 v s).txN = s.txN := rfl
@[simp] theorem statusW1C_inputs (s0 : State) (v : Byte) : (statusW1C s0 v s).inputs = s.inputs := rfl
@[simp] theorem statusW1C_freeIdx (s0 : State) (v : Byte) : (statusW1C s0 v s).freeIdx = s.freeIdx := rfl

/-! ### startSymbol -/

@[simp] theorem startSymbol_params (pol : Level) : (startSymbol pol s).params = s.params := rfl
@[simp] theorem startSymbol_strict (pol : Level) : (startSymbol pol s).strict = s.strict := rfl
@[simp] theorem startSymbol_ie (pol : Level) : (startSymbol pol s).ie = s.ie := rfl
@[simp] theorem startSymbol_busy (pol : Level) : (startSymbol pol s).busy = s.busy := rfl
@[simp] theorem startSymbol_done (pol : Level) : (startSymbol pol s).done = s.done := rfl
@[simp] theorem startSymbol_result (pol : Level) : (startSymbol pol s).result = s.result := rfl
@[simp] theorem startSymbol_op (pol : Level) : (startSymbol pol s).op = s.op := rfl
@[simp] theorem startSymbol_rej (pol : Level) : (startSymbol pol s).rej = s.rej := rfl
@[simp] theorem startSymbol_line (pol : Level) : (startSymbol pol s).line = s.line := rfl
@[simp] theorem startSymbol_bytes (pol : Level) : (startSymbol pol s).bytes = s.bytes := rfl
@[simp] theorem startSymbol_bits (pol : Level) : (startSymbol pol s).bits = s.bits := rfl
@[simp] theorem startSymbol_len (pol : Level) : (startSymbol pol s).len = s.len := rfl
@[simp] theorem startSymbol_tmoL (pol : Level) : (startSymbol pol s).tmoL = s.tmoL := rfl
@[simp] theorem startSymbol_tmoH (pol : Level) : (startSymbol pol s).tmoH = s.tmoH := rfl
@[simp] theorem startSymbol_crc (pol : Level) : (startSymbol pol s).crc = s.crc := rfl
@[simp] theorem startSymbol_crcData (pol : Level) : (startSymbol pol s).crcData = s.crcData := rfl
@[simp] theorem startSymbol_durL (pol : Level) : (startSymbol pol s).durL = s.durL := rfl
@[simp] theorem startSymbol_durH (pol : Level) : (startSymbol pol s).durH = s.durH := rfl
@[simp] theorem startSymbol_clsCtx (pol : Level) : (startSymbol pol s).clsCtx = s.clsCtx := rfl
@[simp] theorem startSymbol_clsPol (pol : Level) : (startSymbol pol s).clsPol = s.clsPol := rfl
@[simp] theorem startSymbol_clsCat (pol : Level) : (startSymbol pol s).clsCat = s.clsCat := rfl
@[simp] theorem startSymbol_clsBit (pol : Level) : (startSymbol pol s).clsBit = s.clsBit := rfl
@[simp] theorem startSymbol_clsBerr (pol : Level) : (startSymbol pol s).clsBerr = s.clsBerr := rfl
@[simp] theorem startSymbol_phase (pol : Level) : (startSymbol pol s).phase = s.phase := rfl
@[simp] theorem startSymbol_drive (pol : Level) : (startSymbol pol s).drive = pol := rfl
@[simp] theorem startSymbol_cause (pol : Level) : (startSymbol pol s).cause = s.cause := rfl
@[simp] theorem startSymbol_buf (pol : Level) : (startSymbol pol s).buf = s.buf := rfl
@[simp] theorem startSymbol_symTmr (pol : Level) : (startSymbol pol s).symTmr = 0#16 := rfl
@[simp] theorem startSymbol_waitTmr (pol : Level) : (startSymbol pol s).waitTmr = s.waitTmr := rfl
@[simp] theorem startSymbol_last (pol : Level) : (startSymbol pol s).last = s.last := rfl
@[simp] theorem startSymbol_shift (pol : Level) : (startSymbol pol s).shift = s.shift := rfl
@[simp] theorem startSymbol_txPol (pol : Level) : (startSymbol pol s).txPol = pol := rfl
@[simp] theorem startSymbol_txN (pol : Level) : (startSymbol pol s).txN = BitVec.ofNat 16 (symbolDur s.params (bufBit s s.bytes.toNat s.bits.toNat) pol) := rfl
@[simp] theorem startSymbol_inputs (pol : Level) : (startSymbol pol s).inputs = s.inputs := rfl
@[simp] theorem startSymbol_freeIdx (pol : Level) : (startSymbol pol s).freeIdx = s.freeIdx := rfl

/-! ### resetBlock -/

@[simp] theorem resetBlock_params : (resetBlock s).params = s.params := rfl
@[simp] theorem resetBlock_strict : (resetBlock s).strict = false := rfl
@[simp] theorem resetBlock_ie : (resetBlock s).ie = false := rfl
@[simp] theorem resetBlock_busy : (resetBlock s).busy = false := rfl
@[simp] theorem resetBlock_done : (resetBlock s).done = false := rfl
@[simp] theorem resetBlock_result : (resetBlock s).result = .none := rfl
@[simp] theorem resetBlock_op : (resetBlock s).op = .receive := rfl
@[simp] theorem resetBlock_rej : (resetBlock s).rej = false := rfl
@[simp] theorem resetBlock_line : (resetBlock s).line = .passive := rfl
@[simp] theorem resetBlock_bytes : (resetBlock s).bytes = 0#4 := rfl
@[simp] theorem resetBlock_bits : (resetBlock s).bits = 0#3 := rfl
@[simp] theorem resetBlock_len : (resetBlock s).len = 0x00#8 := rfl
@[simp] theorem resetBlock_tmoL : (resetBlock s).tmoL = s.params.tmoReset.extractLsb' 0 8 := rfl
@[simp] theorem resetBlock_tmoH : (resetBlock s).tmoH = s.params.tmoReset.extractLsb' 8 8 := rfl
@[simp] theorem resetBlock_crc : (resetBlock s).crc = 0xFF#8 := rfl
@[simp] theorem resetBlock_crcData : (resetBlock s).crcData = 0x00#8 := rfl
@[simp] theorem resetBlock_durL : (resetBlock s).durL = 0x00#8 := rfl
@[simp] theorem resetBlock_durH : (resetBlock s).durH = 0x00#8 := rfl
@[simp] theorem resetBlock_clsCtx : (resetBlock s).clsCtx = 0#2 := rfl
@[simp] theorem resetBlock_clsPol : (resetBlock s).clsPol = .passive := rfl
@[simp] theorem resetBlock_clsCat : (resetBlock s).clsCat = .invalid := rfl
@[simp] theorem resetBlock_clsBit : (resetBlock s).clsBit = false := rfl
@[simp] theorem resetBlock_clsBerr : (resetBlock s).clsBerr = false := rfl
@[simp] theorem resetBlock_phase : (resetBlock s).phase = .idle := rfl
@[simp] theorem resetBlock_drive : (resetBlock s).drive = .passive := rfl
@[simp] theorem resetBlock_cause : (resetBlock s).cause = .none := rfl
@[simp] theorem resetBlock_buf : (resetBlock s).buf = [] := rfl
@[simp] theorem resetBlock_symTmr : (resetBlock s).symTmr = 0#16 := rfl
@[simp] theorem resetBlock_waitTmr : (resetBlock s).waitTmr = 0#16 := rfl
@[simp] theorem resetBlock_last : (resetBlock s).last = .passive := rfl
@[simp] theorem resetBlock_shift : (resetBlock s).shift = 0x00#8 := rfl
@[simp] theorem resetBlock_txPol : (resetBlock s).txPol = .passive := rfl
@[simp] theorem resetBlock_txN : (resetBlock s).txN = 0#16 := rfl
@[simp] theorem resetBlock_inputs : (resetBlock s).inputs = s.inputs := rfl
@[simp] theorem resetBlock_freeIdx : (resetBlock s).freeIdx = s.freeIdx := rfl

/-! ### queueFirst -/

@[simp] theorem queueFirst_params (inp : CycleInput) : (queueFirst inp s).params = s.params := rfl
@[simp] theorem queueFirst_strict (inp : CycleInput) : (queueFirst inp s).strict = s.strict := rfl
@[simp] theorem queueFirst_ie (inp : CycleInput) : (queueFirst inp s).ie = s.ie := rfl
@[simp] theorem queueFirst_busy (inp : CycleInput) : (queueFirst inp s).busy = s.busy := rfl
@[simp] theorem queueFirst_done (inp : CycleInput) : (queueFirst inp s).done = s.done := rfl
@[simp] theorem queueFirst_result (inp : CycleInput) : (queueFirst inp s).result = s.result := rfl
@[simp] theorem queueFirst_op (inp : CycleInput) : (queueFirst inp s).op = s.op := rfl
@[simp] theorem queueFirst_rej (inp : CycleInput) : (queueFirst inp s).rej = s.rej := rfl
@[simp] theorem queueFirst_line (inp : CycleInput) : (queueFirst inp s).line = s.line := rfl
@[simp] theorem queueFirst_bytes (inp : CycleInput) : (queueFirst inp s).bytes = s.bytes := rfl
@[simp] theorem queueFirst_bits (inp : CycleInput) : (queueFirst inp s).bits = s.bits := rfl
@[simp] theorem queueFirst_len (inp : CycleInput) : (queueFirst inp s).len = s.len := rfl
@[simp] theorem queueFirst_tmoL (inp : CycleInput) : (queueFirst inp s).tmoL = s.tmoL := rfl
@[simp] theorem queueFirst_tmoH (inp : CycleInput) : (queueFirst inp s).tmoH = s.tmoH := rfl
@[simp] theorem queueFirst_crc (inp : CycleInput) : (queueFirst inp s).crc = s.crc := rfl
@[simp] theorem queueFirst_crcData (inp : CycleInput) : (queueFirst inp s).crcData = s.crcData := rfl
@[simp] theorem queueFirst_durL (inp : CycleInput) : (queueFirst inp s).durL = s.durL := rfl
@[simp] theorem queueFirst_durH (inp : CycleInput) : (queueFirst inp s).durH = s.durH := rfl
@[simp] theorem queueFirst_clsCtx (inp : CycleInput) : (queueFirst inp s).clsCtx = s.clsCtx := rfl
@[simp] theorem queueFirst_clsPol (inp : CycleInput) : (queueFirst inp s).clsPol = s.clsPol := rfl
@[simp] theorem queueFirst_clsCat (inp : CycleInput) : (queueFirst inp s).clsCat = s.clsCat := rfl
@[simp] theorem queueFirst_clsBit (inp : CycleInput) : (queueFirst inp s).clsBit = s.clsBit := rfl
@[simp] theorem queueFirst_clsBerr (inp : CycleInput) : (queueFirst inp s).clsBerr = s.clsBerr := rfl
@[simp] theorem queueFirst_phase (inp : CycleInput) : (queueFirst inp s).phase = s.phase := rfl
@[simp] theorem queueFirst_drive (inp : CycleInput) : (queueFirst inp s).drive = s.drive := rfl
@[simp] theorem queueFirst_cause (inp : CycleInput) : (queueFirst inp s).cause = s.cause := rfl
@[simp] theorem queueFirst_buf (inp : CycleInput) : (queueFirst inp s).buf = s.buf := rfl
@[simp] theorem queueFirst_symTmr (inp : CycleInput) : (queueFirst inp s).symTmr = s.symTmr := rfl
@[simp] theorem queueFirst_waitTmr (inp : CycleInput) : (queueFirst inp s).waitTmr = s.waitTmr := rfl
@[simp] theorem queueFirst_last (inp : CycleInput) : (queueFirst inp s).last = s.last := rfl
@[simp] theorem queueFirst_shift (inp : CycleInput) : (queueFirst inp s).shift = s.shift := rfl
@[simp] theorem queueFirst_txPol (inp : CycleInput) : (queueFirst inp s).txPol = s.txPol := rfl
@[simp] theorem queueFirst_txN (inp : CycleInput) : (queueFirst inp s).txN = s.txN := rfl
@[simp] theorem queueFirst_inputs (inp : CycleInput) : (queueFirst inp s).inputs = inp :: s.inputs := rfl
@[simp] theorem queueFirst_freeIdx (inp : CycleInput) : (queueFirst inp s).freeIdx = s.freeIdx := rfl

/-! ### bufWrite -/

@[simp] theorem bufWrite_params (i : Nat) (v : Byte) : (bufWrite s i v).params = s.params := by
  unfold bufWrite; split <;> rfl
@[simp] theorem bufWrite_strict (i : Nat) (v : Byte) : (bufWrite s i v).strict = s.strict := by
  unfold bufWrite; split <;> rfl
@[simp] theorem bufWrite_ie (i : Nat) (v : Byte) : (bufWrite s i v).ie = s.ie := by
  unfold bufWrite; split <;> rfl
@[simp] theorem bufWrite_busy (i : Nat) (v : Byte) : (bufWrite s i v).busy = s.busy := by
  unfold bufWrite; split <;> rfl
@[simp] theorem bufWrite_done (i : Nat) (v : Byte) : (bufWrite s i v).done = s.done := by
  unfold bufWrite; split <;> rfl
@[simp] theorem bufWrite_result (i : Nat) (v : Byte) : (bufWrite s i v).result = s.result := by
  unfold bufWrite; split <;> rfl
@[simp] theorem bufWrite_op (i : Nat) (v : Byte) : (bufWrite s i v).op = s.op := by
  unfold bufWrite; split <;> rfl
@[simp] theorem bufWrite_rej (i : Nat) (v : Byte) : (bufWrite s i v).rej = s.rej := by
  unfold bufWrite; split <;> rfl
@[simp] theorem bufWrite_line (i : Nat) (v : Byte) : (bufWrite s i v).line = s.line := by
  unfold bufWrite; split <;> rfl
@[simp] theorem bufWrite_bytes (i : Nat) (v : Byte) : (bufWrite s i v).bytes = s.bytes := by
  unfold bufWrite; split <;> rfl
@[simp] theorem bufWrite_bits (i : Nat) (v : Byte) : (bufWrite s i v).bits = s.bits := by
  unfold bufWrite; split <;> rfl
@[simp] theorem bufWrite_len (i : Nat) (v : Byte) : (bufWrite s i v).len = s.len := by
  unfold bufWrite; split <;> rfl
@[simp] theorem bufWrite_tmoL (i : Nat) (v : Byte) : (bufWrite s i v).tmoL = s.tmoL := by
  unfold bufWrite; split <;> rfl
@[simp] theorem bufWrite_tmoH (i : Nat) (v : Byte) : (bufWrite s i v).tmoH = s.tmoH := by
  unfold bufWrite; split <;> rfl
@[simp] theorem bufWrite_crc (i : Nat) (v : Byte) : (bufWrite s i v).crc = s.crc := by
  unfold bufWrite; split <;> rfl
@[simp] theorem bufWrite_crcData (i : Nat) (v : Byte) : (bufWrite s i v).crcData = s.crcData := by
  unfold bufWrite; split <;> rfl
@[simp] theorem bufWrite_durL (i : Nat) (v : Byte) : (bufWrite s i v).durL = s.durL := by
  unfold bufWrite; split <;> rfl
@[simp] theorem bufWrite_durH (i : Nat) (v : Byte) : (bufWrite s i v).durH = s.durH := by
  unfold bufWrite; split <;> rfl
@[simp] theorem bufWrite_clsCtx (i : Nat) (v : Byte) : (bufWrite s i v).clsCtx = s.clsCtx := by
  unfold bufWrite; split <;> rfl
@[simp] theorem bufWrite_clsPol (i : Nat) (v : Byte) : (bufWrite s i v).clsPol = s.clsPol := by
  unfold bufWrite; split <;> rfl
@[simp] theorem bufWrite_clsCat (i : Nat) (v : Byte) : (bufWrite s i v).clsCat = s.clsCat := by
  unfold bufWrite; split <;> rfl
@[simp] theorem bufWrite_clsBit (i : Nat) (v : Byte) : (bufWrite s i v).clsBit = s.clsBit := by
  unfold bufWrite; split <;> rfl
@[simp] theorem bufWrite_clsBerr (i : Nat) (v : Byte) : (bufWrite s i v).clsBerr = s.clsBerr := by
  unfold bufWrite; split <;> rfl
@[simp] theorem bufWrite_phase (i : Nat) (v : Byte) : (bufWrite s i v).phase = s.phase := by
  unfold bufWrite; split <;> rfl
@[simp] theorem bufWrite_drive (i : Nat) (v : Byte) : (bufWrite s i v).drive = s.drive := by
  unfold bufWrite; split <;> rfl
@[simp] theorem bufWrite_cause (i : Nat) (v : Byte) : (bufWrite s i v).cause = s.cause := by
  unfold bufWrite; split <;> rfl
@[simp] theorem bufWrite_symTmr (i : Nat) (v : Byte) : (bufWrite s i v).symTmr = s.symTmr := by
  unfold bufWrite; split <;> rfl
@[simp] theorem bufWrite_waitTmr (i : Nat) (v : Byte) : (bufWrite s i v).waitTmr = s.waitTmr := by
  unfold bufWrite; split <;> rfl
@[simp] theorem bufWrite_last (i : Nat) (v : Byte) : (bufWrite s i v).last = s.last := by
  unfold bufWrite; split <;> rfl
@[simp] theorem bufWrite_shift (i : Nat) (v : Byte) : (bufWrite s i v).shift = s.shift := by
  unfold bufWrite; split <;> rfl
@[simp] theorem bufWrite_txPol (i : Nat) (v : Byte) : (bufWrite s i v).txPol = s.txPol := by
  unfold bufWrite; split <;> rfl
@[simp] theorem bufWrite_txN (i : Nat) (v : Byte) : (bufWrite s i v).txN = s.txN := by
  unfold bufWrite; split <;> rfl
@[simp] theorem bufWrite_inputs (i : Nat) (v : Byte) : (bufWrite s i v).inputs = s.inputs := by
  unfold bufWrite; split <;> rfl
@[simp] theorem bufWrite_freeIdx (i : Nat) (v : Byte) : (bufWrite s i v).freeIdx = s.freeIdx := by
  unfold bufWrite; split <;> rfl

/-! ### countSent -/

@[simp] theorem countSent_params : (countSent s).params = s.params := by
  unfold countSent; dsimp only; split <;> rfl
@[simp] theorem countSent_strict : (countSent s).strict = s.strict := by
  unfold countSent; dsimp only; split <;> rfl
@[simp] theorem countSent_ie : (countSent s).ie = s.ie := by
  unfold countSent; dsimp only; split <;> rfl
@[simp] theorem countSent_busy : (countSent s).busy = s.busy := by
  unfold countSent; dsimp only; split <;> rfl
@[simp] theorem countSent_done : (countSent s).done = s.done := by
  unfold countSent; dsimp only; split <;> rfl
@[simp] theorem countSent_result : (countSent s).result = s.result := by
  unfold countSent; dsimp only; split <;> rfl
@[simp] theorem countSent_op : (countSent s).op = s.op := by
  unfold countSent; dsimp only; split <;> rfl
@[simp] theorem countSent_rej : (countSent s).rej = s.rej := by
  unfold countSent; dsimp only; split <;> rfl
@[simp] theorem countSent_line : (countSent s).line = s.line := by
  unfold countSent; dsimp only; split <;> rfl
@[simp] theorem countSent_len : (countSent s).len = s.len := by
  unfold countSent; dsimp only; split <;> rfl
@[simp] theorem countSent_tmoL : (countSent s).tmoL = s.tmoL := by
  unfold countSent; dsimp only; split <;> rfl
@[simp] theorem countSent_tmoH : (countSent s).tmoH = s.tmoH := by
  unfold countSent; dsimp only; split <;> rfl
@[simp] theorem countSent_crc : (countSent s).crc = s.crc := by
  unfold countSent; dsimp only; split <;> rfl
@[simp] theorem countSent_crcData : (countSent s).crcData = s.crcData := by
  unfold countSent; dsimp only; split <;> rfl
@[simp] theorem countSent_durL : (countSent s).durL = s.durL := by
  unfold countSent; dsimp only; split <;> rfl
@[simp] theorem countSent_durH : (countSent s).durH = s.durH := by
  unfold countSent; dsimp only; split <;> rfl
@[simp] theorem countSent_clsCtx : (countSent s).clsCtx = s.clsCtx := by
  unfold countSent; dsimp only; split <;> rfl
@[simp] theorem countSent_clsPol : (countSent s).clsPol = s.clsPol := by
  unfold countSent; dsimp only; split <;> rfl
@[simp] theorem countSent_clsCat : (countSent s).clsCat = s.clsCat := by
  unfold countSent; dsimp only; split <;> rfl
@[simp] theorem countSent_clsBit : (countSent s).clsBit = s.clsBit := by
  unfold countSent; dsimp only; split <;> rfl
@[simp] theorem countSent_clsBerr : (countSent s).clsBerr = s.clsBerr := by
  unfold countSent; dsimp only; split <;> rfl
@[simp] theorem countSent_phase : (countSent s).phase = s.phase := by
  unfold countSent; dsimp only; split <;> rfl
@[simp] theorem countSent_drive : (countSent s).drive = s.drive := by
  unfold countSent; dsimp only; split <;> rfl
@[simp] theorem countSent_cause : (countSent s).cause = s.cause := by
  unfold countSent; dsimp only; split <;> rfl
@[simp] theorem countSent_buf : (countSent s).buf = s.buf := by
  unfold countSent; dsimp only; split <;> rfl
@[simp] theorem countSent_symTmr : (countSent s).symTmr = s.symTmr := by
  unfold countSent; dsimp only; split <;> rfl
@[simp] theorem countSent_waitTmr : (countSent s).waitTmr = s.waitTmr := by
  unfold countSent; dsimp only; split <;> rfl
@[simp] theorem countSent_last : (countSent s).last = s.last := by
  unfold countSent; dsimp only; split <;> rfl
@[simp] theorem countSent_shift : (countSent s).shift = s.shift := by
  unfold countSent; dsimp only; split <;> rfl
@[simp] theorem countSent_txPol : (countSent s).txPol = s.txPol := by
  unfold countSent; dsimp only; split <;> rfl
@[simp] theorem countSent_txN : (countSent s).txN = s.txN := by
  unfold countSent; dsimp only; split <;> rfl
@[simp] theorem countSent_inputs : (countSent s).inputs = s.inputs := by
  unfold countSent; dsimp only; split <;> rfl
@[simp] theorem countSent_freeIdx : (countSent s).freeIdx = s.freeIdx := by
  unfold countSent; dsimp only; split <;> rfl

/-! ### accumulate -/

@[simp] theorem accumulate_params (b : Bool) : (accumulate b s).params = s.params := by
  unfold accumulate; dsimp only; split <;> simp
@[simp] theorem accumulate_strict (b : Bool) : (accumulate b s).strict = s.strict := by
  unfold accumulate; dsimp only; split <;> simp
@[simp] theorem accumulate_ie (b : Bool) : (accumulate b s).ie = s.ie := by
  unfold accumulate; dsimp only; split <;> simp
@[simp] theorem accumulate_busy (b : Bool) : (accumulate b s).busy = s.busy := by
  unfold accumulate; dsimp only; split <;> simp
@[simp] theorem accumulate_done (b : Bool) : (accumulate b s).done = s.done := by
  unfold accumulate; dsimp only; split <;> simp
@[simp] theorem accumulate_result (b : Bool) : (accumulate b s).result = s.result := by
  unfold accumulate; dsimp only; split <;> simp
@[simp] theorem accumulate_op (b : Bool) : (accumulate b s).op = s.op := by
  unfold accumulate; dsimp only; split <;> simp
@[simp] theorem accumulate_rej (b : Bool) : (accumulate b s).rej = s.rej := by
  unfold accumulate; dsimp only; split <;> simp
@[simp] theorem accumulate_line (b : Bool) : (accumulate b s).line = s.line := by
  unfold accumulate; dsimp only; split <;> simp
@[simp] theorem accumulate_len (b : Bool) : (accumulate b s).len = s.len := by
  unfold accumulate; dsimp only; split <;> simp
@[simp] theorem accumulate_tmoL (b : Bool) : (accumulate b s).tmoL = s.tmoL := by
  unfold accumulate; dsimp only; split <;> simp
@[simp] theorem accumulate_tmoH (b : Bool) : (accumulate b s).tmoH = s.tmoH := by
  unfold accumulate; dsimp only; split <;> simp
@[simp] theorem accumulate_crc (b : Bool) : (accumulate b s).crc = s.crc := by
  unfold accumulate; dsimp only; split <;> simp
@[simp] theorem accumulate_crcData (b : Bool) : (accumulate b s).crcData = s.crcData := by
  unfold accumulate; dsimp only; split <;> simp
@[simp] theorem accumulate_durL (b : Bool) : (accumulate b s).durL = s.durL := by
  unfold accumulate; dsimp only; split <;> simp
@[simp] theorem accumulate_durH (b : Bool) : (accumulate b s).durH = s.durH := by
  unfold accumulate; dsimp only; split <;> simp
@[simp] theorem accumulate_clsCtx (b : Bool) : (accumulate b s).clsCtx = s.clsCtx := by
  unfold accumulate; dsimp only; split <;> simp
@[simp] theorem accumulate_clsPol (b : Bool) : (accumulate b s).clsPol = s.clsPol := by
  unfold accumulate; dsimp only; split <;> simp
@[simp] theorem accumulate_clsCat (b : Bool) : (accumulate b s).clsCat = s.clsCat := by
  unfold accumulate; dsimp only; split <;> simp
@[simp] theorem accumulate_clsBit (b : Bool) : (accumulate b s).clsBit = s.clsBit := by
  unfold accumulate; dsimp only; split <;> simp
@[simp] theorem accumulate_clsBerr (b : Bool) : (accumulate b s).clsBerr = s.clsBerr := by
  unfold accumulate; dsimp only; split <;> simp
@[simp] theorem accumulate_phase (b : Bool) : (accumulate b s).phase = s.phase := by
  unfold accumulate; dsimp only; split <;> simp
@[simp] theorem accumulate_drive (b : Bool) : (accumulate b s).drive = s.drive := by
  unfold accumulate; dsimp only; split <;> simp
@[simp] theorem accumulate_cause (b : Bool) : (accumulate b s).cause = s.cause := by
  unfold accumulate; dsimp only; split <;> simp
@[simp] theorem accumulate_symTmr (b : Bool) : (accumulate b s).symTmr = s.symTmr := by
  unfold accumulate; dsimp only; split <;> simp
@[simp] theorem accumulate_waitTmr (b : Bool) : (accumulate b s).waitTmr = s.waitTmr := by
  unfold accumulate; dsimp only; split <;> simp
@[simp] theorem accumulate_last (b : Bool) : (accumulate b s).last = s.last := by
  unfold accumulate; dsimp only; split <;> simp
@[simp] theorem accumulate_shift (b : Bool) : (accumulate b s).shift = shiftIn s.shift b := by
  unfold accumulate; dsimp only; split <;> simp
@[simp] theorem accumulate_txPol (b : Bool) : (accumulate b s).txPol = s.txPol := by
  unfold accumulate; dsimp only; split <;> simp
@[simp] theorem accumulate_txN (b : Bool) : (accumulate b s).txN = s.txN := by
  unfold accumulate; dsimp only; split <;> simp
@[simp] theorem accumulate_inputs (b : Bool) : (accumulate b s).inputs = s.inputs := by
  unfold accumulate; dsimp only; split <;> simp
@[simp] theorem accumulate_freeIdx (b : Bool) : (accumulate b s).freeIdx = s.freeIdx := by
  unfold accumulate; dsimp only; split <;> simp

/-! ### outcomes that are `finish` -/

@[simp] theorem raiseNoData_eq : raiseNoData s = finish .noData .none s := rfl
@[simp] theorem raiseBusError_eq (c : Cause) : raiseBusError c s = finish .busErr c s := rfl

end

end Sys2Proof.Machine
end

