-- ==== Sys2Proof/Laws/Memory.lean ====
section
/-! SUPPORT. The frame buffer: read after write, and every operation keeps the canonical form. -/

namespace Sys2Proof.Machine

theorem Memory.wfFrom_cons (lo a : Nat) (v : Byte) (m : Memory) :
    Memory.wfFrom lo ((a, v) :: m) = true ↔ lo ≤ a ∧ v ≠ Memory.unlisted ∧ Memory.wfFrom (a + 1) m = true := by
  simp [Memory.wfFrom]

theorem Memory.wfFrom_mono {lo lo' : Nat} (h : lo' ≤ lo) : ∀ {m : Memory}, Memory.wfFrom lo m = true →
    Memory.wfFrom lo' m = true
  | [], _ => rfl
  | (a, v) :: m, hm => by
    rw [Memory.wfFrom_cons] at hm ⊢
    exact ⟨h.trans hm.1, hm.2⟩

/-- Below the first listed address everything reads as unlisted. -/
theorem Memory.read_below {lo a : Nat} (h : a < lo) : ∀ {m : Memory}, Memory.wfFrom lo m = true →
    Memory.read m a = Memory.unlisted
  | [], _ => rfl
  | (b, w) :: m, hm => by
    rw [Memory.wfFrom_cons] at hm
    have hb : b ≠ a := by omega
    simp only [Memory.read, hb, if_false]
    exact Memory.read_below (lo := b + 1) (by omega) hm.2.2

/-- A byte reads as what was last written to it, and every other byte as before. -/
theorem Memory.read_write {lo : Nat} (a : Nat) (v : Byte) (b : Nat) : ∀ {m : Memory}, Memory.wfFrom lo m = true →
    Memory.read (Memory.write m a v) b = if b = a then v else Memory.read m b
  | [], _ => by
    by_cases hv : v = Memory.unlisted
    · simp [Memory.write, Memory.read, hv]
    · by_cases hab : b = a
      · simp [Memory.write, Memory.read, hv, hab]
      · simp [Memory.write, Memory.read, hv, hab, Ne.symm hab]
  | (c, w) :: m, hm => by
    rw [Memory.wfFrom_cons] at hm
    have ih := Memory.read_write a v b hm.2.2
    by_cases hca : c < a
    · by_cases hcb : c = b
      · subst hcb
        simp [Memory.write, Memory.read, hca, show c ≠ a by omega]
      · simp [Memory.write, Memory.read, hca, hcb, ih]
    · by_cases hba : b = a
      · subst hba
        by_cases hv : v = Memory.unlisted
        · by_cases hcb : c = b
          · simp [Memory.write, hcb, hv, Memory.read_below (lo := c + 1) (a := b) (by omega) hm.2.2]
          · simp [Memory.write, Memory.read, hca, hcb, hv,
              Memory.read_below (lo := c + 1) (a := b) (by omega) hm.2.2]
        · simp [Memory.write, Memory.read, hca, hv]
      · by_cases hv : v = Memory.unlisted
        · by_cases hcb : c = a
          · simp [Memory.write, Memory.read, hcb, hv, hba, Ne.symm hba]
          · simp [Memory.write, Memory.read, hca, hcb, hv, hba]
        · by_cases hcb : c = a
          · simp [Memory.write, Memory.read, hcb, hv, hba, Ne.symm hba]
          · simp [Memory.write, Memory.read, hca, hcb, hv, hba, Ne.symm hba]

/-- A write keeps the canonical form. -/
theorem Memory.wfFrom_write {a : Nat} (v : Byte) : ∀ {lo : Nat} {m : Memory}, lo ≤ a → Memory.wfFrom lo m = true →
    Memory.wfFrom lo (Memory.write m a v) = true
  | lo, [], ha, _ => by
    by_cases hv : v = Memory.unlisted <;> simp [Memory.write, Memory.wfFrom, hv, ha]
  | lo, (b, w) :: m, ha, hm => by
    rw [Memory.wfFrom_cons] at hm
    by_cases hba : b < a
    · simp only [Memory.write, hba, if_true, Memory.wfFrom_cons]
      exact ⟨hm.1, hm.2.1, Memory.wfFrom_write v (by omega) hm.2.2⟩
    · by_cases heq : b = a
      · by_cases hv : v = Memory.unlisted
        · simp only [Memory.write, heq, hv, if_true, Nat.lt_irrefl, if_false]
          exact Memory.wfFrom_mono (by omega) hm.2.2
        · simp only [Memory.write, heq, hv, if_true, Nat.lt_irrefl, if_false, Memory.wfFrom_cons]
          exact ⟨ha, hv, heq ▸ hm.2.2⟩
      · by_cases hv : v = Memory.unlisted
        · simp only [Memory.write, hba, heq, hv, if_true, if_false, Memory.wfFrom_cons]
          exact hm
        · simp only [Memory.write, hba, heq, hv, if_false, Memory.wfFrom_cons]
          exact ⟨ha, hv, by omega, hm.2.1, hm.2.2⟩

theorem Memory.mem_write {a : Nat} {v : Byte} {c : Host.Cell} : ∀ {m : Memory}, c ∈ Memory.write m a v →
    c = (a, v) ∨ c ∈ m
  | [], h => by
    by_cases hv : v = Memory.unlisted <;> simp_all [Memory.write]
  | (b, w) :: m, h => by
    have ih := @Memory.mem_write a v c m
    simp only [Memory.write] at h
    split at h
    · rcases List.mem_cons.mp h with h | h
      · exact .inr (by simp [h])
      · exact (ih h).imp_right (List.mem_cons_of_mem _)
    · split at h <;> split at h <;> simp_all
      exact h.imp_right .inr

/-- A write inside the frame buffer keeps its canonical form. -/
theorem Memory.wf_write {m : Memory} {a : Nat} (v : Byte) (ha : bufBase ≤ a) (ha' : a < reservedBase)
    (h : Memory.wf m = true) : Memory.wf (Memory.write m a v) = true := by
  simp only [Memory.wf, Bool.and_eq_true, List.all_eq_true, decide_eq_true_eq] at h ⊢
  refine ⟨Memory.wfFrom_write v ha h.1, fun c hc => ?_⟩
  rcases Memory.mem_write hc with rfl | hc
  · exact ha'
  · exact h.2 c hc

theorem Memory.wf_nil : Memory.wf [] = true := rfl

/-- In canonical form, memories that read the same are the same. -/
theorem Memory.eq_of_read_eq : ∀ {lo : Nat} {m m' : Memory}, Memory.wfFrom lo m = true → Memory.wfFrom lo m' = true →
    (∀ a, Memory.read m a = Memory.read m' a) → m = m'
  | _, [], [], _, _, _ => rfl
  | _, [], (a, v) :: m', _, h', e => by
    rw [Memory.wfFrom_cons] at h'
    have := e a
    simp [Memory.read] at this
    exact absurd this.symm h'.2.1
  | _, (a, v) :: m, [], h, _, e => by
    rw [Memory.wfFrom_cons] at h
    have := e a
    simp [Memory.read] at this
    exact absurd this h.2.1
  | _, (a, v) :: m, (a', v') :: m', h, h', e => by
    rw [Memory.wfFrom_cons] at h h'
    have haa : a = a' := by
      rcases Nat.lt_trichotomy a a' with hlt | heq | hgt
      · have := e a
        simp only [Memory.read, if_true, show a' ≠ a by omega, if_false] at this
        rw [Memory.read_below (lo := a' + 1) (by omega) h'.2.2] at this
        exact absurd this h.2.1
      · exact heq
      · have := e a'
        simp only [Memory.read, if_true, show a ≠ a' by omega, if_false] at this
        rw [Memory.read_below (lo := a + 1) (by omega) h.2.2] at this
        exact absurd this.symm h'.2.1
    subst haa
    have hv : v = v' := by simpa [Memory.read] using e a
    subst hv
    have hm : m = m' := by
      refine Memory.eq_of_read_eq h.2.2 h'.2.2 fun b => ?_
      by_cases hb : a = b
      · subst hb
        rw [Memory.read_below (lo := a + 1) (by omega) h.2.2, Memory.read_below (lo := a + 1) (by omega) h'.2.2]
      · simpa [Memory.read, hb] using e b
    rw [hm]

/-- What the one writer of BUF does to a read of BUF (10_state.md R38). -/
theorem bufRead_bufWrite (s : State) (i j : Nat) (v : Byte) (h : Memory.wf s.buf = true) :
    bufRead (bufWrite s i v) j = if j = i ∧ i < 12 then v else bufRead s j := by
  have hw : Memory.wfFrom bufBase s.buf = true := by
    simp only [Memory.wf, Bool.and_eq_true] at h
    exact h.1
  by_cases hi : i < 12
  · simp [bufRead, bufWrite, bufSize, hi, Memory.read_write _ v _ hw]
  · simp [bufRead, bufWrite, bufSize, hi]

/-- The one writer of BUF keeps the canonical form. -/
theorem bufWrite_wf (s : State) (i : Nat) (v : Byte) (h : Memory.wf s.buf = true) :
    Memory.wf (bufWrite s i v).buf = true := by
  unfold bufWrite
  split
  · rename_i hi
    simp only [bufSize] at hi
    exact Memory.wf_write v (by simp [bufBase]) (by simp [bufBase, reservedBase]; omega) h
  · exact h

end Sys2Proof.Machine
end

