-- ==== Sys2Proof/Laws/Ops.lean ====
section
/-! SUPPORT. The counters, the bus line, the busy guard, and what `accumulate`, `countSent` and `symbolDur` do. -/

namespace Sys2Proof.Machine

/-! ### Counters (00_scope.md R10) -/

theorem sat16_toNat (v : Nat) : (sat16 v).toNat = min v 0xFFFF := by
  simp only [sat16, BitVec.toNat_ofNat]
  omega

theorem advance_toNat (x : Ticks) : (advance x).toNat = min (x.toNat + 1) 0xFFFF := sat16_toNat _

/-- Below saturation an advance adds one. -/
theorem advance_toNat_of_lt {x : Ticks} (h : x.toNat < 0xFFFF) : (advance x).toNat = x.toNat + 1 := by
  rw [advance_toNat]; omega

/-- A counter at 0xFFFF stays there. -/
theorem advance_saturated : advance 0xFFFF#16 = 0xFFFF#16 := by decide

/-! ### Levels and the bus line (00_scope.md R4) -/

@[simp] theorem Level.not_not (l : Level) : l.not.not = l := by cases l <;> rfl

theorem Level.ne_active_iff (l : Level) : l ≠ .active ↔ l = .passive := by cases l <;> decide

theorem Level.ne_passive_iff (l : Level) : l ≠ .passive ↔ l = .active := by cases l <;> decide

theorem busLevel_eq_active_iff (ext : Level) (drives : List Level) :
    busLevel ext drives = .active ↔ ext = .active ∨ .active ∈ drives := by
  unfold busLevel; split <;> simp_all

theorem busLevel_alone (d : Level) : busLevel .passive [d] = d := by cases d <;> decide

/-! ### The busy guard (45_control.md R239) -/

theorem busyGuard_of_busy {s : State} (write : State → State) (h : s.busy = true) : busyGuard write s = reject s := by
  simp [busyGuard, h]

theorem busyGuard_of_idle {s : State} (write : State → State) (h : s.busy = false) : busyGuard write s = write s := by
  simp [busyGuard, h]

/-! ### Counting bits and bytes -/

/-- Inside a byte `accumulate` only counts and shifts (41_symbol_decoder.md R132). -/
theorem accumulate_of_lt {s : State} (b : Bool) (h : s.bits.toNat < 7) :
    accumulate b s = { s with shift := shiftIn s.shift b, bits := BitVec.ofNat 3 (s.bits.toNat + 1) } := by
  simp [accumulate, show s.bits.toNat ≠ 7 by omega]

/-- The eighth bit completes a byte (41_symbol_decoder.md R133). -/
theorem accumulate_of_eq {s : State} (b : Bool) (h : s.bits.toNat = 7) :
    accumulate b s =
      { bufWrite s s.bytes.toNat (shiftIn s.shift b) with
        shift := shiftIn s.shift b, bytes := s.bytes + 1#4, bits := 0#3 } := by
  simp [accumulate, h]

theorem countSent_of_lt {s : State} (h : s.bits.toNat < 7) :
    countSent s = { s with bits := BitVec.ofNat 3 (s.bits.toNat + 1) } := by
  simp [countSent, show s.bits.toNat ≠ 7 by omega]

theorem countSent_of_eq {s : State} (h : s.bits.toNat = 7) :
    countSent s = { s with bits := 0#3, bytes := s.bytes + 1#4 } := by
  simp [countSent, h]

/-- Every bit count is below 7 or is 7. -/
theorem bits_lt_or_eq (s : State) : s.bits.toNat < 7 ∨ s.bits.toNat = 7 := by
  have := s.bits.isLt
  omega

theorem bits_succ_toNat {s : State} (h : s.bits.toNat < 7) : (BitVec.ofNat 3 (s.bits.toNat + 1)).toNat = s.bits.toNat + 1 := by
  simp only [BitVec.toNat_ofNat]; omega

theorem bytes_succ_toNat {s : State} (h : s.bytes.toNat < 15) : (s.bytes + 1#4).toNat = s.bytes.toNat + 1 := by
  simp only [BitVec.toNat_add, BitVec.toNat_ofNat]; omega

/-! ### Symbol lengths (43_transmitter.md R181) -/

theorem symbolDur_passive (p : Params) (b : Bool) :
    symbolDur p b .passive = if b = true then p.txLong else p.txShort := by cases b <;> rfl

theorem symbolDur_active (p : Params) (b : Bool) :
    symbolDur p b .active = if b = true then p.txShort else p.txLong := by cases b <;> rfl

/-- `BUF[i]` depends on the frame buffer only. -/
theorem bufRead_congr {s t : State} (h : t.buf = s.buf) (i : Nat) : bufRead t i = bufRead s i := by
  simp only [bufRead, h]

theorem bufBit_congr {s t : State} (h : t.buf = s.buf) (i j : Nat) : bufBit t i j = bufBit s i j := by
  simp only [bufBit, bufRead_congr h]

/-- Under a legal parameter set a symbol's length fits TXN and is not 0. -/
theorem symbolDur_bounds {p : Params} (h : p.Legal) (b : Bool) (pol : Level) :
    1 ≤ symbolDur p b pol ∧ symbolDur p b pol ≤ 0xFFFF := by
  obtain ⟨_, _, ⟨hs, hl, _⟩, _⟩ := h
  cases b <;> cases pol <;> simp only [symbolDur] <;> omega

theorem symbolDur_toNat {p : Params} (h : p.Legal) (b : Bool) (pol : Level) :
    (BitVec.ofNat 16 (symbolDur p b pol)).toNat = symbolDur p b pol := by
  have := symbolDur_bounds h b pol
  simp only [BitVec.toNat_ofNat]; omega

/-- `startSymbol` reads parameters, BUF and COUNT only, so SYM_TMR before it does not matter. -/
theorem startSymbol_anyTimer (pol : Level) (s : State) (t : Ticks) :
    startSymbol pol { s with symTmr := t } = startSymbol pol s := rfl

end Sys2Proof.Machine
end

