-- ==== Sys2Proof/Laws/Tick.lean ====
section
/-! SUPPORT. What one tick can do: each tick rule said once as a list of its cases, and what no tick rule writes. -/

namespace Sys2Proof.Machine

/-! ### The host side is not the tick phase's to write -/

theorem hostSide_bufWrite (s : State) (i : Nat) (v : Byte) : hostSide (bufWrite s i v) = hostSide s := by
  unfold bufWrite; split <;> rfl

theorem hostSide_accumulate (b : Bool) (s : State) : hostSide (accumulate b s) = hostSide s := by
  unfold accumulate; dsimp only; split
  · exact hostSide_bufWrite s _ _
  · rfl

theorem hostSide_countSent (s : State) : hostSide (countSent s) = hostSide s := by
  unfold countSent; dsimp only; split <;> rfl

theorem hostSide_rxFrameFull (s : State) : hostSide (rxFrameFull s) = hostSide s := by
  unfold rxFrameFull; split <;> rfl

theorem hostSide_rxTransitionTick (lv : Level) (s : State) : hostSide (rxTransitionTick lv s) = hostSide s := by
  unfold rxTransitionTick; dsimp only; split
  · rfl
  · exact (hostSide_rxFrameFull _).trans (hostSide_accumulate _ s)

theorem hostSide_txSymbolEnd (s : State) : hostSide (txSymbolEnd s) = hostSide s := by
  unfold txSymbolEnd; dsimp only; split
  · exact hostSide_countSent s
  · exact hostSide_countSent s

theorem hostSide_phaseTick (lv : Level) (s : State) : hostSide (phaseTick lv s) = hostSide s := by
  unfold phaseTick
  split
  · rfl
  · unfold rxWaitIdleTick; dsimp only; split_ifs <;> rfl
  · unfold rxWaitSofTick; dsimp only; split_ifs <;> rfl
  · unfold rxSofTick; dsimp only; split_ifs <;> rfl
  · unfold rxDataTick
    split
    · unfold rxHoldTick; dsimp only; split <;> rfl
    · exact hostSide_rxTransitionTick lv s
  · unfold txWaitIdleTick; dsimp only; split_ifs <;> rfl
  · unfold txSofTick; dsimp only; split <;> rfl
  · unfold txDataTick; dsimp only; split_ifs
    · rfl
    · exact hostSide_txSymbolEnd _
    · rfl
  · unfold txEofTick; dsimp only; split <;> rfl

/-- A tick phase writes nothing of the host side (45_control.md R231). -/
theorem hostSide_tickPhase (lv : Level) (s : State) : hostSide (tickPhase lv s) = hostSide s :=
  hostSide_phaseTick lv (sampleLine s lv)

section

variable (lv : Level) (s : State)

@[simp] theorem tickPhase_params : (tickPhase lv s).params = s.params := (congrArg State.params (hostSide_tickPhase lv s) :)
@[simp] theorem tickPhase_strict : (tickPhase lv s).strict = s.strict := (congrArg State.strict (hostSide_tickPhase lv s) :)
@[simp] theorem tickPhase_ie : (tickPhase lv s).ie = s.ie := (congrArg State.ie (hostSide_tickPhase lv s) :)
@[simp] theorem tickPhase_op : (tickPhase lv s).op = s.op := (congrArg State.op (hostSide_tickPhase lv s) :)
@[simp] theorem tickPhase_rej : (tickPhase lv s).rej = s.rej := (congrArg State.rej (hostSide_tickPhase lv s) :)
@[simp] theorem tickPhase_len : (tickPhase lv s).len = s.len := (congrArg State.len (hostSide_tickPhase lv s) :)
@[simp] theorem tickPhase_tmoL : (tickPhase lv s).tmoL = s.tmoL := (congrArg State.tmoL (hostSide_tickPhase lv s) :)
@[simp] theorem tickPhase_tmoH : (tickPhase lv s).tmoH = s.tmoH := (congrArg State.tmoH (hostSide_tickPhase lv s) :)
@[simp] theorem tickPhase_crc : (tickPhase lv s).crc = s.crc := (congrArg State.crc (hostSide_tickPhase lv s) :)
@[simp] theorem tickPhase_crcData : (tickPhase lv s).crcData = s.crcData :=
  (congrArg State.crcData (hostSide_tickPhase lv s) :)
@[simp] theorem tickPhase_durL : (tickPhase lv s).durL = s.durL := (congrArg State.durL (hostSide_tickPhase lv s) :)
@[simp] theorem tickPhase_durH : (tickPhase lv s).durH = s.durH := (congrArg State.durH (hostSide_tickPhase lv s) :)
@[simp] theorem tickPhase_clsCtx : (tickPhase lv s).clsCtx = s.clsCtx := (congrArg State.clsCtx (hostSide_tickPhase lv s) :)
@[simp] theorem tickPhase_clsPol : (tickPhase lv s).clsPol = s.clsPol := (congrArg State.clsPol (hostSide_tickPhase lv s) :)
@[simp] theorem tickPhase_clsCat : (tickPhase lv s).clsCat = s.clsCat := (congrArg State.clsCat (hostSide_tickPhase lv s) :)
@[simp] theorem tickPhase_clsBit : (tickPhase lv s).clsBit = s.clsBit := (congrArg State.clsBit (hostSide_tickPhase lv s) :)
@[simp] theorem tickPhase_clsBerr : (tickPhase lv s).clsBerr = s.clsBerr :=
  (congrArg State.clsBerr (hostSide_tickPhase lv s) :)
@[simp] theorem tickPhase_inputs : (tickPhase lv s).inputs = s.inputs := (congrArg State.inputs (hostSide_tickPhase lv s) :)
@[simp] theorem tickPhase_freeIdx : (tickPhase lv s).freeIdx = s.freeIdx :=
  (congrArg State.freeIdx (hostSide_tickPhase lv s) :)

/-! ### The phase rule that runs (45_control.md R231) -/

theorem tickPhase_idle (h : s.phase = .idle) : tickPhase lv s = sampleLine s lv := by
  simp [tickPhase, phaseTick, h]
theorem tickPhase_rxWaitIdle (h : s.phase = .rxWaitIdle) : tickPhase lv s = rxWaitIdleTick lv (sampleLine s lv) := by
  simp [tickPhase, phaseTick, h]
theorem tickPhase_rxWaitSof (h : s.phase = .rxWaitSof) : tickPhase lv s = rxWaitSofTick lv (sampleLine s lv) := by
  simp [tickPhase, phaseTick, h]
theorem tickPhase_rxSof (h : s.phase = .rxSof) : tickPhase lv s = rxSofTick lv (sampleLine s lv) := by
  simp [tickPhase, phaseTick, h]
theorem tickPhase_rxData (h : s.phase = .rxData) : tickPhase lv s = rxDataTick lv (sampleLine s lv) := by
  simp [tickPhase, phaseTick, h]
theorem tickPhase_txWaitIdle (h : s.phase = .txWaitIdle) : tickPhase lv s = txWaitIdleTick lv (sampleLine s lv) := by
  simp [tickPhase, phaseTick, h]
theorem tickPhase_txSof (h : s.phase = .txSof) : tickPhase lv s = txSofTick (sampleLine s lv) := by
  simp [tickPhase, phaseTick, h]
theorem tickPhase_txData (h : s.phase = .txData) : tickPhase lv s = txDataTick lv (sampleLine s lv) := by
  simp [tickPhase, phaseTick, h]
theorem tickPhase_txEof (h : s.phase = .txEof) : tickPhase lv s = txEofTick (sampleLine s lv) := by
  simp [tickPhase, phaseTick, h]

/-! ### The cases of each rule, guards included -/

theorem rxWaitIdleTick_cases :
    ((tmo s).toNat ≤ (advance s.waitTmr).toNat ∧
        rxWaitIdleTick lv s = finish .noData .none { s with waitTmr := advance s.waitTmr }) ∨
      ((advance s.waitTmr).toNat < (tmo s).toNat ∧ lv = .active ∧
        rxWaitIdleTick lv s = { s with waitTmr := advance s.waitTmr, symTmr := 0#16 }) ∨
      ((advance s.waitTmr).toNat < (tmo s).toNat ∧ lv = .passive ∧ s.params.rxIfsMin ≤ (advance s.symTmr).toNat ∧
        rxWaitIdleTick lv s =
          { s with waitTmr := advance s.waitTmr, symTmr := advance s.symTmr, phase := .rxWaitSof }) ∨
      ((advance s.waitTmr).toNat < (tmo s).toNat ∧ lv = .passive ∧ (advance s.symTmr).toNat < s.params.rxIfsMin ∧
        rxWaitIdleTick lv s = { s with waitTmr := advance s.waitTmr, symTmr := advance s.symTmr }) := by
  unfold rxWaitIdleTick
  by_cases h1 : (tmo s).toNat ≤ (advance s.waitTmr).toNat
  · simp [h1, Nat.not_lt.mpr h1]
  · by_cases h2 : s.params.rxIfsMin ≤ (advance s.symTmr).toNat
    · cases lv <;> simp [h1, h2, Nat.not_le.mp h1, Nat.not_lt.mpr h2]
    · cases lv <;> simp [h1, h2, Nat.not_le.mp h1, Nat.not_le.mp h2]

theorem rxWaitSofTick_cases :
    (lv = .active ∧
        rxWaitSofTick lv s = { s with waitTmr := advance s.waitTmr, phase := .rxSof, symTmr := 1#16 }) ∨
      (lv = .passive ∧ (tmo s).toNat ≤ (advance s.waitTmr).toNat ∧
        rxWaitSofTick lv s = finish .noData .none { s with waitTmr := advance s.waitTmr }) ∨
      (lv = .passive ∧ (advance s.waitTmr).toNat < (tmo s).toNat ∧
        rxWaitSofTick lv s = { s with waitTmr := advance s.waitTmr }) := by
  unfold rxWaitSofTick
  by_cases h1 : (tmo s).toNat ≤ (advance s.waitTmr).toNat
  · cases lv <;> simp [h1]
  · cases lv <;> simp [h1, Nat.not_le.mp h1]

theorem rxSofTick_cases :
    (lv = .active ∧ s.params.rxSofMax < (advance s.symTmr).toNat ∧
        rxSofTick lv s = finish .busErr .sofLong { s with symTmr := advance s.symTmr }) ∨
      (lv = .active ∧ (advance s.symTmr).toNat ≤ s.params.rxSofMax ∧
        rxSofTick lv s = { s with symTmr := advance s.symTmr }) ∨
      (lv = .passive ∧ s.symTmr.toNat < s.params.rxSofMin ∧ rxSofTick lv s = finish .busErr .sofShort s) ∨
      (lv = .passive ∧ s.params.rxSofMin ≤ s.symTmr.toNat ∧
        rxSofTick lv s = { s with last := .passive, symTmr := 1#16, phase := .rxData }) := by
  unfold rxSofTick
  cases lv with
  | active =>
    by_cases h : s.params.rxSofMax < (advance s.symTmr).toNat
    · simp [h]
    · simp [h, Nat.not_lt.mp h]
  | passive =>
    by_cases h : s.symTmr.toNat < s.params.rxSofMin
    · simp [h]
    · simp [h, Nat.not_lt.mp h]

theorem rxHoldTick_cases :
    (s.params.rxEodMin ≤ (advance s.symTmr).toNat ∧
        rxHoldTick s = finish .ok .none { s with symTmr := advance s.symTmr }) ∨
      ((advance s.symTmr).toNat < s.params.rxEodMin ∧ rxHoldTick s = { s with symTmr := advance s.symTmr }) := by
  unfold rxHoldTick
  by_cases h : s.params.rxEodMin ≤ (advance s.symTmr).toNat
  · simp [h]
  · simp [h, Nat.not_le.mp h]

/-- A transition raises BusError, ends a full frame, or starts the next symbol (42_receiver.md R155, R156). -/
theorem rxTransitionTick_cases :
    ((decodeSymbol s.params s.symTmr s.last s.strict).berr = true ∧
        rxTransitionTick lv s = finish .busErr (decodeSymbol s.params s.symTmr s.last s.strict).cause s) ∨
      ((decodeSymbol s.params s.symTmr s.last s.strict).berr = false ∧
        rxTransitionTick lv s =
          rxFrameFull
            { accumulate (decodeSymbol s.params s.symTmr s.last s.strict).bit s with last := lv, symTmr := 1#16 }) := by
  unfold rxTransitionTick
  cases h : (decodeSymbol s.params s.symTmr s.last s.strict).berr <;> simp [h]

theorem txWaitIdleTick_cases :
    (lv = .passive ∧ s.params.rxIfsMin ≤ (advance s.symTmr).toNat ∧
        txWaitIdleTick lv s =
          { s with waitTmr := advance s.waitTmr, drive := .active, phase := .txSof, symTmr := 0#16 }) ∨
      ((lv = .active ∨ (advance s.symTmr).toNat < s.params.rxIfsMin) ∧
        s.params.txIdleCeil ≤ (advance s.waitTmr).toNat ∧
        txWaitIdleTick lv s =
          finish .busErr .txIdleTimeout
            { s with waitTmr := advance s.waitTmr, symTmr := if lv = .active then 0#16 else advance s.symTmr }) ∨
      ((lv = .active ∨ (advance s.symTmr).toNat < s.params.rxIfsMin) ∧
        (advance s.waitTmr).toNat < s.params.txIdleCeil ∧
        txWaitIdleTick lv s =
          { s with waitTmr := advance s.waitTmr, symTmr := if lv = .active then 0#16 else advance s.symTmr }) := by
  unfold txWaitIdleTick
  by_cases h1 : s.params.rxIfsMin ≤ (advance s.symTmr).toNat
  · by_cases h2 : s.params.txIdleCeil ≤ (advance s.waitTmr).toNat
    · cases lv <;> simp [h1, h2]
    · cases lv <;> simp [h1, h2, Nat.not_le.mp h2]
  · by_cases h2 : s.params.txIdleCeil ≤ (advance s.waitTmr).toNat
    · cases lv <;> simp [h1, h2, Nat.not_le.mp h1]
    · cases lv <;> simp [h1, h2, Nat.not_le.mp h1, Nat.not_le.mp h2]

theorem txSofTick_cases :
    (s.params.txSof ≤ (advance s.symTmr).toNat ∧ txSofTick s = { startSymbol .passive s with phase := .txData }) ∨
      ((advance s.symTmr).toNat < s.params.txSof ∧ txSofTick s = { s with symTmr := advance s.symTmr }) := by
  unfold txSofTick
  by_cases h : s.params.txSof ≤ (advance s.symTmr).toNat
  · simp [h, startSymbol_anyTimer]
  · simp [h, Nat.not_le.mp h]

theorem txDataTick_cases :
    (s.txPol = .passive ∧ lv = .active ∧ (advance s.symTmr).toNat < s.txN.toNat ∧
        txDataTick lv s = finish .busErr .contention { s with symTmr := advance s.symTmr }) ∨
      (s.txN.toNat ≤ (advance s.symTmr).toNat ∧
        txDataTick lv s = txSymbolEnd { s with symTmr := advance s.symTmr }) ∨
      ((s.txPol = .active ∨ lv = .passive) ∧ (advance s.symTmr).toNat < s.txN.toNat ∧
        txDataTick lv s = { s with symTmr := advance s.symTmr }) := by
  unfold txDataTick
  by_cases h : s.txN.toNat ≤ (advance s.symTmr).toNat
  · simp [h, Nat.not_lt.mpr h]
  · cases s.txPol <;> cases lv <;> simp [h, Nat.not_le.mp h]

/-- The end of a symbol inside a byte starts the next symbol of that byte (43_transmitter.md R184). -/
theorem txSymbolEnd_cases :
    ((countSent s).bytes.toNat = s.len.toNat ∧
        txSymbolEnd s = { countSent s with drive := .passive, phase := .txEof, symTmr := 0#16 }) ∨
      ((countSent s).bytes.toNat ≠ s.len.toNat ∧ txSymbolEnd s = startSymbol s.txPol.not (countSent s)) := by
  unfold txSymbolEnd
  by_cases h : (countSent s).bytes.toNat = s.len.toNat
  · simp [h]
  · simp [h]

theorem txEofTick_cases :
    (s.params.txEof ≤ (advance s.symTmr).toNat ∧
        txEofTick s = finish .ok .none { s with symTmr := advance s.symTmr }) ∨
      ((advance s.symTmr).toNat < s.params.txEof ∧ txEofTick s = { s with symTmr := advance s.symTmr }) := by
  unfold txEofTick
  by_cases h : s.params.txEof ≤ (advance s.symTmr).toNat
  · simp [h]
  · simp [h, Nat.not_le.mp h]

end

/-! ### Everything a tick can do -/

/-- A tick of an idle block only samples the line; any other tick ends the operation by `finish` or leaves it in flight, and
writes the engine's own fields only (45_control.md R231). -/
theorem tickPhase_cases (s : State) (lv : Level) :
    let s1 := sampleLine s lv
    let t := tickPhase lv s
    (s.phase = .idle ∧ t = s1) ∨
      (s.phase ≠ .idle ∧ ∃ r c w,
        t = finish r c
          { s1 with
            waitTmr := w, symTmr := t.symTmr, bits := t.bits, bytes := t.bytes, shift := t.shift, buf := t.buf
            last := t.last } ∧ r ≠ .none ∧ (c ≠ .none → r = .busErr)) ∨
      (s.phase ≠ .idle ∧ t.phase ≠ .idle ∧
        t = { s1 with
          phase := t.phase, waitTmr := t.waitTmr, symTmr := t.symTmr, bits := t.bits, bytes := t.bytes
          shift := t.shift, last := t.last, drive := t.drive, txPol := t.txPol, txN := t.txN, buf := t.buf }) := by
  intro s1 t
  have facts : t = phaseTick lv s1 := rfl
  have hs : s1.phase = s.phase := rfl
  cases hp : s.phase
  case idle => left; exact ⟨rfl, by rw [facts, phaseTick, hs, hp]⟩
  case rxWaitIdle =>
    right; have : t = rxWaitIdleTick lv s1 := by rw [facts, phaseTick, hs, hp]
    rcases rxWaitIdleTick_cases lv s1 with ⟨h1, h2⟩ | ⟨h1, h2, h3⟩ | ⟨h1, h2, h3, h4⟩ | ⟨h1, h2, h3, h4⟩
    · left; refine ⟨by simp, .noData, .none, advance s1.waitTmr, ?_, by simp, by simp⟩; rw [this, h2]; rfl
    · right; refine ⟨by simp, by rw [this, h3]; simp [hs, hp], ?_⟩; rw [this, h3]
    · right; refine ⟨by simp, by rw [this, h4]; simp, ?_⟩; rw [this, h4]
    · right; refine ⟨by simp, by rw [this, h4]; simp [hs, hp], ?_⟩; rw [this, h4]
  case rxWaitSof =>
    right; have : t = rxWaitSofTick lv s1 := by rw [facts, phaseTick, hs, hp]
    rcases rxWaitSofTick_cases lv s1 with ⟨h1, h2⟩ | ⟨h1, h2, h3⟩ | ⟨h1, h2, h3⟩
    · right; refine ⟨by simp, by rw [this, h2]; simp, ?_⟩; rw [this, h2]
    · left; refine ⟨by simp, .noData, .none, advance s1.waitTmr, ?_, by simp, by simp⟩; rw [this, h3]; rfl
    · right; refine ⟨by simp, by rw [this, h3]; simp [hs, hp], ?_⟩; rw [this, h3]
  case rxSof =>
    right; have : t = rxSofTick lv s1 := by rw [facts, phaseTick, hs, hp]
    rcases rxSofTick_cases lv s1 with ⟨h1, h2, h3⟩ | ⟨h1, h2, h3⟩ | ⟨h1, h2, h3⟩ | ⟨h1, h2, h3⟩
    · left; refine ⟨by simp, .busErr, .sofLong, s1.waitTmr, ?_, by simp, by simp⟩; rw [this, h3]; rfl
    · right; refine ⟨by simp, by rw [this, h3]; simp [hs, hp], ?_⟩; rw [this, h3]
    · left; refine ⟨by simp, .busErr, .sofShort, s1.waitTmr, ?_, by simp, by simp⟩; rw [this, h3]; rfl
    · right; refine ⟨by simp, by rw [this, h3]; simp, ?_⟩; rw [this, h3]
  case rxData =>
    right; have : t = rxDataTick lv s1 := by rw [facts, phaseTick, hs, hp]
    unfold rxDataTick at this; split at this
    · rcases rxHoldTick_cases s1 with ⟨h1, h2⟩ | ⟨h1, h2⟩
      · left; refine ⟨by simp, .ok, .none, s1.waitTmr, ?_, by simp, by simp⟩; rw [this, h2]; rfl
      · right; refine ⟨by simp, by rw [this, h2]; simp [hs, hp], ?_⟩; rw [this, h2]
    · rcases rxTransitionTick_cases lv s1 with ⟨h1, h2⟩ | ⟨h1, h2⟩
      · left
        refine ⟨by simp, .busErr, (decodeSymbol s1.params s1.symTmr s1.last s1.strict).cause, s1.waitTmr, ?_, by simp, by simp⟩
        rw [this, h2]; rfl
      · generalize hbb : (decodeSymbol s1.params s1.symTmr s1.last s1.strict).bit = b at h2
        obtain ⟨bi, by', sh, bu, acc⟩ : ∃ bi by' sh bu,
            accumulate b s1 = { s1 with bits := bi, bytes := by', shift := sh, buf := bu } := by
          unfold accumulate; dsimp only; split
          · unfold bufWrite; split <;> exact ⟨_, _, _, _, rfl⟩
          · exact ⟨_, _, _, _, rfl⟩
        rw [acc] at h2
        unfold rxFrameFull at h2; split at h2
        · left; refine ⟨by simp, .ok, .none, s1.waitTmr, ?_, by simp, by simp⟩; rw [this, h2]; rfl
        · right; refine ⟨by simp, by rw [this, h2]; simp [hs, hp], ?_⟩; rw [this, h2]
  case txWaitIdle =>
    right; have : t = txWaitIdleTick lv s1 := by rw [facts, phaseTick, hs, hp]
    rcases txWaitIdleTick_cases lv s1 with ⟨h1, h2, h3⟩ | ⟨h1, h2, h3⟩ | ⟨h1, h2, h3⟩
    · right; refine ⟨by simp, by rw [this, h3]; simp, ?_⟩; rw [this, h3]
    · left; refine ⟨by simp, .busErr, .txIdleTimeout, advance s1.waitTmr, ?_, by simp, by simp⟩; rw [this, h3]; rfl
    · right; refine ⟨by simp, by rw [this, h3]; simp [hs, hp], ?_⟩; rw [this, h3]
  case txSof =>
    right; have : t = txSofTick s1 := by rw [facts, phaseTick, hs, hp]
    rcases txSofTick_cases s1 with ⟨h1, h2⟩ | ⟨h1, h2⟩
    · right; refine ⟨by simp, by rw [this, h2]; simp, ?_⟩; rw [this, h2]; rfl
    · right; refine ⟨by simp, by rw [this, h2]; simp [hs, hp], ?_⟩; rw [this, h2]
  case txData =>
    right; have : t = txDataTick lv s1 := by rw [facts, phaseTick, hs, hp]
    rcases txDataTick_cases lv s1 with ⟨h1, h2, h3, h4⟩ | ⟨h1, h2⟩ | ⟨h1, h2, h3⟩
    · left; refine ⟨by simp, .busErr, .contention, s1.waitTmr, ?_, by simp, by simp⟩; rw [this, h4]; rfl
    · obtain ⟨bi, by', acc⟩ : ∃ bi by', countSent { s1 with symTmr := advance s1.symTmr } =
          { s1 with symTmr := advance s1.symTmr, bits := bi, bytes := by' } := by
        unfold countSent; dsimp only; split <;> exact ⟨_, _, rfl⟩
      right
      rcases txSymbolEnd_cases { s1 with symTmr := advance s1.symTmr } with ⟨h3, h4⟩ | ⟨h3, h4⟩
      · rw [acc] at h4; refine ⟨by simp, by rw [this, h2, h4]; simp, ?_⟩; rw [this, h2, h4]
      · rw [acc] at h4; refine ⟨by simp, by rw [this, h2, h4]; simp [hs, hp], ?_⟩; rw [this, h2, h4]; rfl
    · right; refine ⟨by simp, by rw [this, h3]; simp [hs, hp], ?_⟩; rw [this, h3]
  case txEof =>
    right; have : t = txEofTick s1 := by rw [facts, phaseTick, hs, hp]
    rcases txEofTick_cases s1 with ⟨h1, h2⟩ | ⟨h1, h2⟩
    · left; refine ⟨by simp, .ok, .none, s1.waitTmr, ?_, by simp, by simp⟩; rw [this, h2]; rfl
    · right; refine ⟨by simp, by rw [this, h2]; simp [hs, hp], ?_⟩; rw [this, h2]

end Sys2Proof.Machine
end

