-- ==== Sys2Proof/Laws/Cycle.lean ====
section
/-! SUPPORT. What a command, a host write and a cycle can do: each said once as a list of its cases. -/

namespace Sys2Proof.Machine

/-! ### Commands -/

theorem execReceive_busy {s : State} (h : s.busy = true) : execReceive s = .next (reject s) := by
  simp [execReceive, h]

theorem execReceive_idle {s : State} (h : s.busy = false) :
    execReceive s =
      .next { launch .rxWaitIdle (claim .receive s) with shift := 0x00#8, last := .passive } := by
  simp [execReceive, h]

theorem execTransmit_busy {s : State} (h : s.busy = true) : execTransmit s = .next (reject s) := by
  simp [execTransmit, h]

theorem execTransmit_legal {s : State} (h : s.busy = false) (hl : lenLegal s = true) :
    execTransmit s = .next (launch .txWaitIdle (claim .transmit s)) := by
  simp [execTransmit, h, hl]

theorem execTransmit_illegal {s : State} (h : s.busy = false) (hl : lenLegal s = false) :
    execTransmit s = .next (raiseDataError (claim .transmit s)) := by
  simp [execTransmit, h, hl]

theorem execAbort_busy {s : State} (h : s.busy = true) : execAbort s = .next (finish .aborted .none s) := by
  simp [execAbort, h]

theorem execAbort_idle {s : State} (h : s.busy = false) : execAbort s = .next s := by
  simp [execAbort, h]

theorem lenLegal_iff (s : State) : lenLegal s = true ↔ 1 ≤ s.len.toNat ∧ s.len.toNat ≤ s.params.maxBytes := by
  simp [lenLegal]

/-- CLASSIFY is refused or writes CLS_RES (40_classifier.md R108). -/
theorem execClassify_cases (s : State) :
    (Context.ofCode s.clsCtx = none ∧ execClassify s = .next (reject s)) ∨
      ∃ cat bit berr, execClassify s = .next (setClsRes cat bit berr s) := by
  unfold execClassify
  cases h : Context.ofCode s.clsCtx with
  | none => exact .inl ⟨rfl, rfl⟩
  | some c =>
    refine .inr ?_
    cases c with
    | data => exact ⟨_, _, _, rfl⟩
    | sof => simp only [classifyInSof]; split <;> exact ⟨_, _, _, rfl⟩
    | boundary => exact ⟨_, _, _, rfl⟩

/-- Everything a command can do. -/
theorem exec_cases (i : Instr) (s : State) :
    ∃ t, exec i s = .next t ∧
      (t = s ∨ t = reject s ∨
        (s.busy = false ∧ t = { launch .rxWaitIdle (claim .receive s) with shift := 0x00#8, last := .passive }) ∨
        (s.busy = false ∧ lenLegal s = true ∧ t = launch .txWaitIdle (claim .transmit s)) ∨
        (s.busy = false ∧ lenLegal s = false ∧ t = raiseDataError (claim .transmit s)) ∨
        (s.busy = true ∧ t = finish .aborted .none s) ∨
        (∃ c, t = { s with crc := c }) ∨ (∃ cat bit berr, t = setClsRes cat bit berr s)) := by
  cases i with
  | nop => exact ⟨s, rfl, .inl rfl⟩
  | receive =>
    cases h : s.busy with
    | true => exact ⟨_, execReceive_busy h, .inr (.inl rfl)⟩
    | false => exact ⟨_, execReceive_idle h, .inr (.inr (.inl ⟨rfl, rfl⟩))⟩
  | transmit =>
    cases h : s.busy with
    | true => exact ⟨_, execTransmit_busy h, .inr (.inl rfl)⟩
    | false =>
      cases hl : lenLegal s with
      | true => exact ⟨_, execTransmit_legal h hl, .inr (.inr (.inr (.inl ⟨rfl, rfl, rfl⟩)))⟩
      | false => exact ⟨_, execTransmit_illegal h hl, .inr (.inr (.inr (.inr (.inl ⟨rfl, rfl, rfl⟩))))⟩
  | abort =>
    cases h : s.busy with
    | true => exact ⟨_, execAbort_busy h, .inr (.inr (.inr (.inr (.inr (.inl ⟨rfl, rfl⟩)))))⟩
    | false => exact ⟨_, execAbort_idle h, .inl rfl⟩
  | crcInit => exact ⟨_, rfl, .inr (.inr (.inr (.inr (.inr (.inr (.inl ⟨_, rfl⟩))))))⟩
  | crcBit => exact ⟨_, rfl, .inr (.inr (.inr (.inr (.inr (.inr (.inl ⟨_, rfl⟩))))))⟩
  | crcByte => exact ⟨_, rfl, .inr (.inr (.inr (.inr (.inr (.inr (.inl ⟨_, rfl⟩))))))⟩
  | classify =>
    rcases execClassify_cases s with ⟨_, h⟩ | ⟨cat, bit, berr, h⟩
    · exact ⟨_, h, .inr (.inl rfl)⟩
    · exact ⟨_, h, .inr (.inr (.inr (.inr (.inr (.inr (.inr ⟨cat, bit, berr, rfl⟩))))))⟩

/-- A byte written to CMD is refused or runs the command it decodes to (45_control.md R234, R237). -/
theorem command_cases (op : Byte) (s : State) :
    command op s = .next (reject s) ∨ ∃ i, decode op = .ok i ∧ command op s = exec i s := by
  unfold command
  cases h : decode op with
  | ok i => exact .inr ⟨i, rfl, rfl⟩
  | error e => cases e; exact .inl rfl

/-! ### Host writes -/

theorem busyGuard_cases (write : State → State) (s : State) :
    (s.busy = true ∧ busyGuard write s = reject s) ∨ (s.busy = false ∧ busyGuard write s = write s) := by
  cases h : s.busy with
  | true => exact .inl ⟨rfl, busyGuard_of_busy write h⟩
  | false => exact .inr ⟨rfl, busyGuard_of_idle write h⟩

/-- Everything a host write can do (45_control.md R233). -/
theorem hostWrite_cases (s0 : State) (a : Addr) (v : Byte) (s : State) :
    ∃ t, hostWrite s0 a v s = .next t ∧
      (t = s ∨ t = reject s ∨
        (s.busy = false ∧
          (t = writeCtrl v s ∨ t = { s with len := v } ∨ t = { s with tmoL := v } ∨ t = { s with tmoH := v } ∨
            ∃ i, i < 12 ∧ t = bufWrite s i v)) ∨
        t = statusW1C s0 v s ∨
        (t = { s with crc := v } ∨ t = { s with crcData := v } ∨ t = { s with durL := v } ∨ t = { s with durH := v } ∨
          t = writeClsCfg v s) ∨
        ∃ i, exec i s = .next t) := by
  have guard (write : State → State)
      (hw : write = writeCtrl v ∨ (write = fun t => { t with len := v }) ∨ (write = fun t => { t with tmoL := v }) ∨
        (write = fun t => { t with tmoH := v }) ∨ ∃ i, i < 12 ∧ write = fun t => bufWrite t i v) :
      ∃ t, Host.Outcome.next (φ := Fault) (ρ := Refusal) (busyGuard write s) = .next t ∧
        (t = s ∨ t = reject s ∨
          (s.busy = false ∧
            (t = writeCtrl v s ∨ t = { s with len := v } ∨ t = { s with tmoL := v } ∨ t = { s with tmoH := v } ∨
              ∃ i, i < 12 ∧ t = bufWrite s i v)) ∨
          t = statusW1C s0 v s ∨
          (t = { s with crc := v } ∨ t = { s with crcData := v } ∨ t = { s with durL := v } ∨ t = { s with durH := v } ∨
            t = writeClsCfg v s) ∨
          ∃ i, exec i s = .next t) := by
    rcases busyGuard_cases write s with ⟨_, e⟩ | ⟨hb, e⟩
    · exact ⟨_, rfl, .inr (.inl e)⟩
    · refine ⟨_, rfl, .inr (.inr (.inl ⟨hb, ?_⟩))⟩
      rcases hw with rfl | rfl | rfl | rfl | ⟨i, hi, rfl⟩
      · exact .inl e
      · exact .inr (.inl e)
      · exact .inr (.inr (.inl e))
      · exact .inr (.inr (.inr (.inl e)))
      · exact .inr (.inr (.inr (.inr ⟨i, hi, e⟩)))
  unfold hostWrite
  cases Reg.ofAddr a with
  | ctrl => exact guard _ (.inl rfl)
  | cmd =>
    rcases command_cases v s with h | ⟨i, _, h⟩
    · exact ⟨_, h, .inr (.inl rfl)⟩
    · obtain ⟨t, ht, _⟩ := exec_cases i s
      exact ⟨t, h.trans ht, .inr (.inr (.inr (.inr (.inr ⟨i, ht⟩))))⟩
  | status => exact ⟨_, rfl, .inr (.inr (.inr (.inl rfl)))⟩
  | count => exact ⟨_, rfl, .inl rfl⟩
  | len => exact guard _ (.inr (.inl rfl))
  | tmoL => exact guard _ (.inr (.inr (.inl rfl)))
  | tmoH => exact guard _ (.inr (.inr (.inr (.inl rfl))))
  | crc => exact ⟨_, rfl, .inr (.inr (.inr (.inr (.inl (.inl rfl)))))⟩
  | crcData => exact ⟨_, rfl, .inr (.inr (.inr (.inr (.inl (.inr (.inl rfl))))))⟩
  | crcOut => exact ⟨_, rfl, .inl rfl⟩
  | durL => exact ⟨_, rfl, .inr (.inr (.inr (.inr (.inl (.inr (.inr (.inl rfl)))))))⟩
  | durH => exact ⟨_, rfl, .inr (.inr (.inr (.inr (.inl (.inr (.inr (.inr (.inl rfl))))))))⟩
  | clsCfg => exact ⟨_, rfl, .inr (.inr (.inr (.inr (.inl (.inr (.inr (.inr (.inr rfl))))))))⟩
  | clsRes => exact ⟨_, rfl, .inl rfl⟩
  | state => exact ⟨_, rfl, .inl rfl⟩
  | errCause => exact ⟨_, rfl, .inl rfl⟩
  | buf i => exact guard _ (.inr (.inr (.inr (.inr ⟨i.val, i.isLt, rfl⟩))))
  | reserved i => exact ⟨_, rfl, .inl rfl⟩

/-! ### A cycle and a step -/

/-- What a cycle can do: reset, or the tick phase and then at most one host write (45_control.md R230). -/
theorem cycle_cases (inp : CycleInput) (lv : Level) (s : State) :
    ∃ t, cycle inp lv s = .next t ∧
      ((inp.rst = true ∧ t = resetBlock s) ∨
        (inp.rst = false ∧ inp.we = false ∧ t = afterTick inp lv s) ∨
        (inp.rst = false ∧ inp.we = true ∧ hostWrite s inp.addr inp.wdata (afterTick inp lv s) = .next t)) := by
  unfold cycle
  cases hr : inp.rst with
  | true => exact ⟨_, rfl, .inl ⟨rfl, rfl⟩⟩
  | false =>
    cases hw : inp.we with
    | false => exact ⟨_, rfl, .inr (.inl ⟨rfl, rfl, rfl⟩)⟩
    | true =>
      obtain ⟨t, ht, _⟩ := hostWrite_cases s inp.addr inp.wdata (afterTick inp lv s)
      exact ⟨t, ht, .inr (.inr ⟨rfl, rfl, ht⟩)⟩

/-- The tick phase happened, or nothing did. -/
theorem afterTick_cases (inp : CycleInput) (lv : Level) (s : State) :
    (inp.tick = true ∧ afterTick inp lv s = tickPhase lv s) ∨ (inp.tick = false ∧ afterTick inp lv s = s) := by
  unfold afterTick; cases inp.tick <;> simp

/-- A step under a legal parameter set is a cycle of the block on its own bus; under any other it is refused. -/
theorem step_of_legal {s : State} (h : s.params.Legal) :
    step s = cycle (takeInput s).1 (busLevel (takeInput s).1.ext [s.drive]) (takeInput s).2 := by
  unfold step; rw [if_pos h]

theorem step_of_illegal {s : State} (h : ¬ s.params.Legal) : step s = .refused .illegalParameters := by
  unfold step; rw [if_neg h]

theorem legal_of_step {s t : State} (h : step s = .next t) : s.params.Legal := by
  by_contra hl
  rw [step_of_illegal hl] at h
  cases h

/-- One block alone on its bus: a step is the cycle of a net of one node, the refusal of an illegal set included (log 4, 14). -/
theorem netCycle_alone (s : State) : netCycle [(takeInput s).1] [(takeInput s).2] = [step s] := by
  have hp : (takeInput s).2.params = s.params := by unfold takeInput; split <;> rfl
  have hd : (takeInput s).2.drive = s.drive := by unfold takeInput; split <;> rfl
  have he : netExt [(takeInput s).1] = (takeInput s).1.ext := by
    cases h : (takeInput s).1.ext <;> simp [netExt, h]
  simp [netCycle, netLine, step, hp, hd, he]

/-! ### What `takeInput` leaves -/

theorem takeInput_queued {s : State} {inp : CycleInput} {rest : List CycleInput} (h : s.inputs = inp :: rest) :
    takeInput s = (inp, { s with inputs := rest }) := by
  simp [takeInput, h]

theorem takeInput_free {s : State} (h : s.inputs = []) :
    takeInput s = (Config.freeInput s.freeIdx, { s with freeIdx := s.freeIdx + 1 }) := by
  simp [takeInput, h]

theorem takeInput_queueFirst (inp : CycleInput) (s : State) : takeInput (queueFirst inp s) = (inp, s) := rfl

section

variable (s : State)

@[simp] theorem takeInput_params : (takeInput s).2.params = s.params := by unfold takeInput; split <;> rfl
@[simp] theorem takeInput_strict : (takeInput s).2.strict = s.strict := by unfold takeInput; split <;> rfl
@[simp] theorem takeInput_ie : (takeInput s).2.ie = s.ie := by unfold takeInput; split <;> rfl
@[simp] theorem takeInput_busy : (takeInput s).2.busy = s.busy := by unfold takeInput; split <;> rfl
@[simp] theorem takeInput_done : (takeInput s).2.done = s.done := by unfold takeInput; split <;> rfl
@[simp] theorem takeInput_result : (takeInput s).2.result = s.result := by unfold takeInput; split <;> rfl
@[simp] theorem takeInput_op : (takeInput s).2.op = s.op := by unfold takeInput; split <;> rfl
@[simp] theorem takeInput_rej : (takeInput s).2.rej = s.rej := by unfold takeInput; split <;> rfl
@[simp] theorem takeInput_line : (takeInput s).2.line = s.line := by unfold takeInput; split <;> rfl
@[simp] theorem takeInput_bytes : (takeInput s).2.bytes = s.bytes := by unfold takeInput; split <;> rfl
@[simp] theorem takeInput_bits : (takeInput s).2.bits = s.bits := by unfold takeInput; split <;> rfl
@[simp] theorem takeInput_len : (takeInput s).2.len = s.len := by unfold takeInput; split <;> rfl
@[simp] theorem takeInput_tmoL : (takeInput s).2.tmoL = s.tmoL := by unfold takeInput; split <;> rfl
@[simp] theorem takeInput_tmoH : (takeInput s).2.tmoH = s.tmoH := by unfold takeInput; split <;> rfl
@[simp] theorem takeInput_crc : (takeInput s).2.crc = s.crc := by unfold takeInput; split <;> rfl
@[simp] theorem takeInput_crcData : (takeInput s).2.crcData = s.crcData := by unfold takeInput; split <;> rfl
@[simp] theorem takeInput_durL : (takeInput s).2.durL = s.durL := by unfold takeInput; split <;> rfl
@[simp] theorem takeInput_durH : (takeInput s).2.durH = s.durH := by unfold takeInput; split <;> rfl
@[simp] theorem takeInput_clsCtx : (takeInput s).2.clsCtx = s.clsCtx := by unfold takeInput; split <;> rfl
@[simp] theorem takeInput_clsPol : (takeInput s).2.clsPol = s.clsPol := by unfold takeInput; split <;> rfl
@[simp] theorem takeInput_clsCat : (takeInput s).2.clsCat = s.clsCat := by unfold takeInput; split <;> rfl
@[simp] theorem takeInput_clsBit : (takeInput s).2.clsBit = s.clsBit := by unfold takeInput; split <;> rfl
@[simp] theorem takeInput_clsBerr : (takeInput s).2.clsBerr = s.clsBerr := by unfold takeInput; split <;> rfl
@[simp] theorem takeInput_phase : (takeInput s).2.phase = s.phase := by unfold takeInput; split <;> rfl
@[simp] theorem takeInput_drive : (takeInput s).2.drive = s.drive := by unfold takeInput; split <;> rfl
@[simp] theorem takeInput_cause : (takeInput s).2.cause = s.cause := by unfold takeInput; split <;> rfl
@[simp] theorem takeInput_buf : (takeInput s).2.buf = s.buf := by unfold takeInput; split <;> rfl
@[simp] theorem takeInput_symTmr : (takeInput s).2.symTmr = s.symTmr := by unfold takeInput; split <;> rfl
@[simp] theorem takeInput_waitTmr : (takeInput s).2.waitTmr = s.waitTmr := by unfold takeInput; split <;> rfl
@[simp] theorem takeInput_last : (takeInput s).2.last = s.last := by unfold takeInput; split <;> rfl
@[simp] theorem takeInput_shift : (takeInput s).2.shift = s.shift := by unfold takeInput; split <;> rfl
@[simp] theorem takeInput_txPol : (takeInput s).2.txPol = s.txPol := by unfold takeInput; split <;> rfl
@[simp] theorem takeInput_txN : (takeInput s).2.txN = s.txN := by unfold takeInput; split <;> rfl

end

end Sys2Proof.Machine
end

