-- ==== Sys2Proof/Laws/Operands.lean ====
section
/-! SUPPORT. Operands, counters and the line as the numbers the statements speak of, and the codes' round trips. -/

namespace Sys2Proof.Machine

theorem advance_eq (x : Ticks) : advance x = BitVec.ofNat 16 (oneMore x) := rfl

theorem advance_nat (x : Ticks) : (advance x).toNat = oneMore x := advance_toNat x

theorem oneMore_of_lt {x : Ticks} (h : x.toNat < 65535) : oneMore x = x.toNat + 1 := by
  unfold oneMore; omega

/-- A register pair is 256 times its high byte plus its low byte (20_memory.md R63). -/
theorem pair_toNat (hi lo : Byte) : (pair hi lo).toNat = 256 * hi.toNat + lo.toNat := by
  simp only [pair, BitVec.toNat_append]
  rw [Nat.shiftLeft_eq, Nat.mul_comm, ← Nat.two_pow_add_eq_or_of_lt (i := 8) lo.isLt]

theorem tmo_nat (s : State) : (tmo s).toNat = tmoNat s := pair_toNat _ _

theorem dur_nat (s : State) : (dur s).toNat = durNat s := pair_toNat _ _

/-- One bit enters at bit 0 and the old bit 7 leaves (41_symbol_decoder.md R132, 44_crc8.md R210). -/
theorem shiftIn_eq (v : Byte) (b : Bool) : shiftIn v b = BitVec.ofNat 8 (2 * v.toNat + b.toNat) := by
  revert v b; decide

/-- Alone on its bus the block samples its own drive or the external part (92 D21). -/
theorem busLevel_sampled (ext : Level) (s : State) : busLevel ext [s.drive] = sampled ext s := by
  simp [busLevel, sampled, eq_comm]

theorem Reg.addr_ofAddr : ∀ a : Addr, (Reg.ofAddr a).addr = a := by decide

theorem Reg.ofAddr_injective {a b : Addr} (h : Reg.ofAddr a = Reg.ofAddr b) : a = b := by
  rw [← Reg.addr_ofAddr a, h, Reg.addr_ofAddr]

theorem Reg.ofAddr_buf : ∀ i : Fin 12, Reg.ofAddr (Reg.addr (.buf i)) = .buf i := by decide

/-- The guarded addresses (10_state.md R40). -/
theorem guardedAddr_cases : ∀ a : Addr, guardedAddr a = true →
    a = 0x00#5 ∨ a = 0x04#5 ∨ a = 0x05#5 ∨ a = 0x06#5 ∨ ∃ i : Fin 12, a = Reg.addr (.buf i) := by decide

theorem decode_reserved : ∀ op : Byte, 8 ≤ op.toNat → decode op = .error (.reservedOpcode op) := by decide

/-- Outside BUF nothing is listed (10_state.md R38). -/
theorem Memory.read_outside {m : Memory} {a : Nat} (hm : Memory.wf m = true) (ha : a < bufBase ∨ reservedBase ≤ a) :
    Memory.read m a = Memory.unlisted := by
  simp only [Memory.wf, Bool.and_eq_true, List.all_eq_true, decide_eq_true_eq] at hm
  rcases ha with ha | ha
  · exact Memory.read_below ha hm.1
  · obtain ⟨-, hm⟩ := hm
    induction m with
    | nil => rfl
    | cons c m ih =>
      obtain ⟨b, w⟩ := c
      have hb : b ≠ a := by have := hm (b, w) (by simp); simp only at this; omega
      simp only [Memory.read, hb, if_false]
      exact ih fun x hx => hm x (by simp [hx])

end Sys2Proof.Machine
end

