-- ==== Sys2Proof/Laws/Inv.lean ====
section
/-! SUPPORT. How `BlockInv` is built, phase by phase, and what keeps it trivially. -/

namespace Sys2Proof.Machine

/-- What holds of every operation in flight. -/
structure Flying (s : State) : Prop where
  busy : s.busy = true
  done : s.done = false
  result : s.result = .none
  cause : s.cause = .none
  bufWf : Memory.wf s.buf = true

theorem bits_le (s : State) : s.bits.toNat ≤ 7 := by have := s.bits.isLt; omega

theorem advance_pos (x : Ticks) : 1 ≤ (advance x).toNat := by rw [advance_toNat]; omega

theorem BlockInv.flying {s : State} (h : BlockInv s) (hp : s.phase ≠ .idle) : Flying s :=
  have hb := h.coherent.busyIff.mpr hp
  ⟨hb, (h.coherent.inFlight hb).1, (h.coherent.inFlight hb).2.1, (h.coherent.inFlight hb).2.2, h.bufWf⟩

theorem BlockInv.phase_idle {s : State} (h : BlockInv s) (hb : s.busy = false) : s.phase = .idle := by
  by_contra hp
  exact absurd (h.coherent.busyIff.mpr hp) (by simp [hb])

/-! ### Introduction, phase by phase -/

theorem BlockInv.of_finish {s : State} {r : ResultCode} {c : Cause} (hb : s.bytes.toNat ≤ 12)
    (hm : Memory.wf s.buf = true) (hc : c ≠ .none → r = .busErr) : BlockInv (finish r c s) := by
  constructor
  case coherent => constructor <;> simp [Phase.isRx, Phase.isTx, hb, bits_le]; exact hc
  case timers => constructor <;> simp
  all_goals simp [Phase.isRx, Phase.isTx, hm]

theorem BlockInv.of_idle {s : State} (hp : s.phase = .idle) (hbu : s.busy = false) (hd : s.drive = .passive)
    (hb : s.bytes.toNat ≤ 12) (hm : Memory.wf s.buf = true) (hc : s.cause ≠ .none → s.result = .busErr) : BlockInv s := by
  constructor
  case coherent => constructor <;> simp [Phase.isRx, Phase.isTx, hb, hp, hbu, hd, bits_le]; exact hc
  case timers => constructor <;> simp [hp]
  all_goals simp [Phase.isRx, Phase.isTx, hm, hp]

theorem BlockInv.of_rxWaitIdle {s : State} (f : Flying s) (hp : s.phase = .rxWaitIdle) (ho : s.op = .receive)
    (hd : s.drive = .passive) (h1 : s.bytes = 0#4) (h2 : s.bits = 0#3) (hw : s.waitTmr.toNat < max (tmo s).toNat 1) :
    BlockInv s := by
  obtain ⟨f1, f2, f3, f4, f5⟩ := f
  constructor
  case coherent => constructor <;> simp [Phase.isRx, Phase.isTx, *]
  case timers => constructor <;> simp [hp]; simpa using hw
  all_goals simp [Phase.isRx, Phase.isTx, *]

theorem BlockInv.of_rxWaitSof {s : State} (f : Flying s) (hp : s.phase = .rxWaitSof) (ho : s.op = .receive)
    (hd : s.drive = .passive) (h1 : s.bytes = 0#4) (h2 : s.bits = 0#3) (hw : s.waitTmr.toNat < max (tmo s).toNat 1) :
    BlockInv s := by
  obtain ⟨f1, f2, f3, f4, f5⟩ := f
  constructor
  case coherent => constructor <;> simp [Phase.isRx, Phase.isTx, *]
  case timers => constructor <;> simp [hp]; simpa using hw
  all_goals simp [Phase.isRx, Phase.isTx, *]

theorem BlockInv.of_rxSof {s : State} (f : Flying s) (hp : s.phase = .rxSof) (ho : s.op = .receive)
    (hd : s.drive = .passive) (h1 : s.bytes = 0#4) (h2 : s.bits = 0#3)
    (hw : 1 ≤ s.symTmr.toNat ∧ s.symTmr.toNat ≤ s.params.rxSofMax) : BlockInv s := by
  obtain ⟨f1, f2, f3, f4, f5⟩ := f
  constructor
  case coherent => constructor <;> simp [Phase.isRx, Phase.isTx, *]
  case timers => constructor <;> simp [hp]; simpa using hw
  all_goals simp [Phase.isRx, Phase.isTx, *]

theorem BlockInv.of_rxData {s : State} (f : Flying s) (hp : s.phase = .rxData) (ho : s.op = .receive)
    (hd : s.drive = .passive) (h1 : s.bytes.toNat < 12)
    (hw : 1 ≤ s.symTmr.toNat ∧ s.symTmr.toNat ≤ max 1 (s.params.rxEodMin - 1)) : BlockInv s := by
  obtain ⟨f1, f2, f3, f4, f5⟩ := f
  have := bits_le s
  have := h1.le
  constructor
  case coherent => constructor <;> simp [Phase.isRx, Phase.isTx, *]
  case timers => constructor <;> simp [hp]; simpa using hw
  all_goals simp [Phase.isRx, Phase.isTx, *]

theorem BlockInv.of_txWaitIdle {s : State} (f : Flying s) (hp : s.phase = .txWaitIdle) (ho : s.op = .transmit)
    (hd : s.drive = .passive) (h1 : s.bytes = 0#4) (h2 : s.bits = 0#3) (hl : 1 ≤ s.len.toNat ∧ s.len.toNat ≤ 12)
    (hw : s.waitTmr.toNat < s.params.txIdleCeil ∧ s.symTmr.toNat < s.params.rxIfsMin) : BlockInv s := by
  obtain ⟨f1, f2, f3, f4, f5⟩ := f
  have : 0 < s.len.toNat := by omega
  constructor
  case coherent => constructor <;> simp [Phase.isRx, Phase.isTx, *]
  case timers => constructor <;> simp [hp]; simpa using hw
  all_goals simp [Phase.isRx, Phase.isTx, *]

theorem BlockInv.of_txSof {s : State} (f : Flying s) (hp : s.phase = .txSof) (ho : s.op = .transmit)
    (hd : s.drive = .active) (h1 : s.bytes = 0#4) (h2 : s.bits = 0#3) (hl : 1 ≤ s.len.toNat ∧ s.len.toNat ≤ 12)
    (hw : s.symTmr.toNat < s.params.txSof) : BlockInv s := by
  obtain ⟨f1, f2, f3, f4, f5⟩ := f
  have : 0 < s.len.toNat := by omega
  constructor
  case coherent => constructor <;> simp [Phase.isRx, Phase.isTx, *]
  case timers => constructor <;> simp [hp]; simpa using hw
  all_goals simp [Phase.isRx, Phase.isTx, *]

theorem BlockInv.of_txData {s : State} (f : Flying s) (hp : s.phase = .txData) (ho : s.op = .transmit)
    (hd : s.drive = s.txPol) (h1 : s.bytes.toNat < s.len.toNat) (hl : 1 ≤ s.len.toNat ∧ s.len.toNat ≤ 12)
    (hs : SymbolInFlight s) (hw : s.symTmr.toNat < s.txN.toNat) : BlockInv s := by
  obtain ⟨f1, f2, f3, f4, f5⟩ := f
  have := bits_le s
  have : s.bytes.toNat ≤ 12 := by omega
  constructor
  case coherent => constructor <;> simp [Phase.isRx, Phase.isTx, *]
  case timers => constructor <;> simp [hp]; simpa using hw
  all_goals simp [Phase.isRx, Phase.isTx, *]

theorem BlockInv.of_txEof {s : State} (f : Flying s) (hp : s.phase = .txEof) (ho : s.op = .transmit)
    (hd : s.drive = .passive) (h1 : s.bytes.toNat = s.len.toNat) (h2 : s.bits = 0#3)
    (hl : 1 ≤ s.len.toNat ∧ s.len.toNat ≤ 12) (hw : s.symTmr.toNat < s.params.txEof) : BlockInv s := by
  obtain ⟨f1, f2, f3, f4, f5⟩ := f
  constructor
  case coherent => constructor <;> simp [Phase.isRx, Phase.isTx, *]
  case timers => constructor <;> simp [hp]; simpa using hw
  all_goals simp [Phase.isRx, Phase.isTx, *]

/-! ### What keeps it trivially -/

/-- LINE, STRICT, IE, REJ, the CRC and classifier registers, LAST, SHIFT and the queue are not in the invariant. -/
theorem BlockInv.congr {s t : State} (h : BlockInv s)
    (e : t.params = s.params ∧ t.busy = s.busy ∧ t.done = s.done ∧ t.result = s.result ∧ t.cause = s.cause ∧
      t.op = s.op ∧ t.phase = s.phase ∧ t.drive = s.drive ∧ t.bytes = s.bytes ∧ t.bits = s.bits ∧ t.len = s.len ∧
      t.tmoL = s.tmoL ∧ t.tmoH = s.tmoH ∧ t.buf = s.buf ∧ t.symTmr = s.symTmr ∧ t.waitTmr = s.waitTmr ∧
      t.txPol = s.txPol ∧ t.txN = s.txN) : BlockInv t := by
  obtain ⟨e1, e2, e3, e4, e5, e6, e7, e8, e9, e10, e11, e12, e13, e14, e15, e16, e17, e18⟩ := e
  obtain ⟨⟨a1, a2, a3, a4, a5, a6, a7, a8, a9, a10, a11, a12⟩, ⟨b1, b2, b3, b4, b5, b6, b7, b8⟩, c, d, e, f, g, i⟩ := h
  refine ⟨⟨?_, ?_, ?_, ?_, ?_, ?_, ?_, ?_, ?_, ?_, ?_, ?_⟩, ⟨?_, ?_, ?_, ?_, ?_, ?_, ?_, ?_⟩, ?_, ?_, ?_, ?_, ?_, ?_⟩ <;>
    simp only [e1, e2, e3, e4, e5, e6, e7, e8, e9, e10, e11, e14, e15, e16, e17, e18, tmo, e12, e13] <;> try assumption
  intro hp
  obtain ⟨x, y⟩ := g hp
  exact ⟨by simpa [e17, e10] using x, by simpa [e18, e1, bufBit, bufRead, e14, e9, e10, e17] using y⟩

/-- With no operation in flight only these fields matter. -/
theorem BlockInv.congr_idle {s t : State} (h : BlockInv s) (hb : s.busy = false)
    (e : t.phase = s.phase ∧ t.busy = s.busy ∧ t.drive = s.drive ∧ t.bytes = s.bytes ∧ t.cause = s.cause ∧
      t.result = s.result)
    (hm : Memory.wf t.buf = true) : BlockInv t := by
  have hp := h.phase_idle hb
  obtain ⟨e1, e2, e3, e4, e5, e6⟩ := e
  exact .of_idle (e1.trans hp) (e2.trans hb) (e3.trans (h.coherent.driveElse (by simp [hp]) (by simp [hp])))
    (e4 ▸ h.coherent.bytesLe) hm (fun hc => e6 ▸ (h.coherent.causeOnly (e5 ▸ hc)).1)

end Sys2Proof.Machine
end

