-- ==== Sys2Proof/Laws/PerInstr.lean ====
section
/-! SUPPORT. What holds of every command as syntax, one lemma per constructor (30_encoding.md R83, R91). -/

namespace Sys2Proof.Laws.OpcodeRow

/-- A command is well formed, its opcode is one of the eight the opcode map gives, and its byte decodes to it. -/
def Statement (i : Instr) : Prop :=
  i.wf = true ∧ (encode i).toNat < 8 ∧ decode (encode i) = .ok i ∧ decodeTableWord 8 (encode i).toNat = some i

theorem nop : Statement .nop := by unfold Statement; decide
theorem receive : Statement .receive := by unfold Statement; decide
theorem transmit : Statement .transmit := by unfold Statement; decide
theorem abort : Statement .abort := by unfold Statement; decide
theorem crcInit : Statement .crcInit := by unfold Statement; decide
theorem crcBit : Statement .crcBit := by unfold Statement; decide
theorem crcByte : Statement .crcByte := by unfold Statement; decide
theorem classify : Statement .classify := by unfold Statement; decide

end Sys2Proof.Laws.OpcodeRow
end

