-- ==== Sys2Proof/Tests/Slice0.lean ====
section
/-! SUPPORT. The model's own tests: ill-formed parameter sets, the opcode bytes written out from 30_encoding.md R83, single
steps from 95_test_vectors.md, and a witness for the hypotheses of every statement that has some. -/

namespace Sys2Proof.Tests

open Sys2Proof.Machine

/-! ### Well-formedness: every clause of 00_scope.md R6 refuses a set that breaks it alone -/

theorem test_defaults_legal : Config.defaults.Legal ∧ Config.defaults.RoundTripSafe := by decide

/-- The gapped set of 95_test_vectors.md S2.5. -/
def gapped : Params := { Config.defaults with rxShortLim := 90, rxLongMin := 100 }

theorem test_gapped_legal : gapped.Legal ∧ gapped.RoundTripSafe := by decide

/-- The least durations a legal, round-trip-safe set can have side by side: few ticks for the witnesses below. -/
def tiny : Params :=
  { Config.defaults with
    rxShortMin := 1, rxShortLim := 2, rxLongMin := 2, rxLongLim := 3, rxEodMin := 3, rxEofMin := 3, rxIfsMin := 3
    rxSofMin := 1, rxSofMax := 4, txShort := 1, txLong := 2, txSof := 2, txEof := 3, txIdleCeil := 9 }

theorem test_tiny_legal : tiny.Legal ∧ tiny.RoundTripSafe := by decide

/-- Whether the defaults stay legal when they are changed. -/
def legalWith (change : Params → Params) : Bool := decide (change Config.defaults).Legal

/-- Whether the defaults stay round-trip safe when they are changed. -/
def safeWith (change : Params → Params) : Bool := decide (change Config.defaults).RoundTripSafe

theorem test_edge_legal :
    legalWith (fun p => { p with rxIfsMin := 0xFFFF, rxSofMax := 0xFFFE, txIdleCeil := 0xFFFF }) = true := by decide

theorem test_windows_refused :
    legalWith (fun p => { p with rxShortMin := 0 }) = false ∧ legalWith (fun p => { p with rxShortMin := 97 }) = false ∧
    legalWith (fun p => { p with rxShortLim := 97 }) = false ∧ legalWith (fun p => { p with rxLongMin := 164 }) = false ∧
    legalWith (fun p => { p with rxLongLim := 164 }) = false ∧ legalWith (fun p => { p with rxEodMin := 240 }) = false ∧
    legalWith (fun p => { p with rxEofMin := 281 }) = false ∧ legalWith (fun p => { p with rxIfsMin := 0x10000 }) = false := by
  decide

theorem test_sof_window_refused :
    legalWith (fun p => { p with rxSofMin := 0 }) = false ∧ legalWith (fun p => { p with rxSofMin := 280 }) = false ∧
    legalWith (fun p => { p with rxSofMax := 0xFFFF }) = false := by decide

theorem test_tx_range_refused :
    legalWith (fun p => { p with txShort := 0 }) = false ∧ legalWith (fun p => { p with txLong := 0 }) = false ∧
    legalWith (fun p => { p with txSof := 0 }) = false ∧ legalWith (fun p => { p with txEof := 0x10000 }) = false ∧
    legalWith (fun p => { p with txIdleCeil := 0 }) = false := by decide

theorem test_widths_refused :
    legalWith (fun p => { p with maxBytes := 13 }) = false ∧ legalWith (fun p => { p with timerW := 15 }) = false := by
  decide

/-- A step under an illegal set (log 4). -/
theorem test_illegal_set_refused :
    step { State.reset with params := { Config.defaults with maxBytes := 11 } } = .refused .illegalParameters :=
  step_of_illegal (by decide)

theorem test_round_trip_unsafe :
    safeWith (fun p => { p with txShort := 96 }) = false ∧ safeWith (fun p => { p with txLong := 163 }) = false ∧
    safeWith (fun p => { p with txSof := 280 }) = false ∧ safeWith (fun p => { p with txEof := 162 }) = false := by decide

/-- A command has no field to be wrong in (30_encoding.md R91): the check refuses no term. -/
theorem test_instr_wf :
    [Instr.nop, .receive, .transmit, .abort, .crcInit, .crcBit, .crcByte, .classify].all Instr.wf = true := by decide

/-! ### Decoding: the bytes of 30_encoding.md R83, bit 7 first -/

theorem test_decode_nop : decodeTableWord 8 0b00000000 = some .nop := by decide
theorem test_decode_receive : decodeTableWord 8 0b00000001 = some .receive := by decide
theorem test_decode_transmit : decodeTableWord 8 0b00000010 = some .transmit := by decide
theorem test_decode_abort : decodeTableWord 8 0b00000011 = some .abort := by decide
theorem test_decode_crcInit : decodeTableWord 8 0b00000100 = some .crcInit := by decide
theorem test_decode_crcBit : decodeTableWord 8 0b00000101 = some .crcBit := by decide
theorem test_decode_crcByte : decodeTableWord 8 0b00000110 = some .crcByte := by decide
theorem test_decode_classify : decodeTableWord 8 0b00000111 = some .classify := by decide

/-- The whole byte is matched: a high bit makes the opcode reserved. -/
theorem test_decode_reserved :
    decodeTableWord 8 0b00001000 = none ∧ decodeTableWord 8 0b10000001 = none ∧ decodeTableWord 8 0b11111111 = none := by
  decide

/-! ### Helpers -/

/-- Runs one command on a state. -/
def run (i : Instr) (s : State) : State := nextOr s (exec i s)

/-- One host write with no tick. -/
def wr (a : Addr) (v : Byte) (s : State) : State := nextOr s (hostWrite s a v s)

/-- One step with these inputs. -/
def cyc (inp : CycleInput) (s : State) : State := nextOr s (step (queueFirst inp s))

/-- A cycle with a tick and no host access. -/
def tickIn (lv : Level) : CycleInput := { rst := false, tick := true, ext := lv, addr := 0x00#5, we := false, wdata := 0x00#8 }

/-- The reset state of the tiny set. -/
def idle : State := State.resetWith tiny [] 0

/-- A reception in its initial wait. -/
def waiting : State := run .receive idle

/-- A reception with the given data-phase fields. -/
def receiving (p : Params) (last : Level) (d : Nat) : State :=
  { State.resetWith p [] 0 with busy := true, phase := .rxData, last := last, symTmr := BitVec.ofNat 16 d }

/-- A transmission of one byte 0x00 in its first data symbol. -/
def sending : State :=
  { idle with
    busy := true, phase := .txData, op := .transmit, len := 0x01#8, txPol := .passive, txN := 0x0001#16 }

/-! ### The commands (95_test_vectors.md) -/

/-- CT7: NOP leaves everything, DONE included. -/
theorem test_nop : run .nop { idle with done := true } = { idle with done := true } := by decide

/-- R150's example: STATUS reads 0x01. -/
theorem test_receive : hostRead (run .receive State.reset) 0x02#5 = 0x01#8 := by decide

/-- CT13: refused while busy, REJ only. -/
theorem test_receive_busy : run .receive sending = { sending with rej := true } := by decide

/-- R180's example: LEN = 6 gives STATUS 0x21. -/
theorem test_transmit : hostRead (run .transmit (wr 0x04#5 6#8 State.reset)) 0x02#5 = 0x21#8 := by decide

/-- R180, corner case: LEN = 13 gives DATAERR (RESULT 4, OP 1, DONE 1) and COUNT 0, and does not start. -/
theorem test_transmit_dataerr :
    let s := run .transmit (wr 0x04#5 13#8 State.reset)
    hostRead s 0x02#5 = 0x32#8 ∧ hostRead s 0x03#5 = 0x00#8 ∧ hostRead s 0x0E#5 = 0x00#8 := by decide

/-- CT9: STATUS reads 0x16, STATE 0x00. -/
theorem test_abort :
    let s := run .abort waiting
    hostRead s 0x02#5 = 0x16#8 ∧ hostRead s 0x0E#5 = 0x00#8 := by decide

/-- CT8: while idle nothing changes. -/
theorem test_abort_idle : run .abort { idle with done := true, result := .ok } = { idle with done := true, result := .ok } := by
  decide

/-- S6.5. -/
theorem test_crcInit :
    hostRead (run .crcInit { idle with crc := 0x97#8 }) 0x07#5 = 0xFF#8 ∧
    hostRead (run .crcInit { idle with crc := 0x97#8 }) 0x09#5 = 0x00#8 := by decide

/-- S6.5: only bit 0 of CRC_DATA is read. -/
theorem test_crcBit :
    (run .crcBit { idle with crcData := 0xFE#8 }).crc = 0xE3#8 ∧ (run .crcBit { idle with crcData := 0x01#8 }).crc = 0xFE#8 := by
  decide

/-- S6.1: the four tap cases. -/
theorem test_crcstep :
    crcstep 0x80#8 false = 0x1D#8 ∧ crcstep 0x8E#8 true = 0x1C#8 ∧ crcstep 0x7F#8 true = 0xE3#8 ∧
    crcstep 0x01#8 false = 0x02#8 := by decide

/-- S6.5: accepted while busy. -/
theorem test_crcByte : (run .crcByte { waiting with crcData := 0x28#8 }).crc = 0xAB#8 := by decide

/-- S6.3: the scenario sequence, whose crc8 is 0x68. -/
theorem test_crc8_scenario :
    crcbyte 0xFF#8 0x28#8 = 0xAB#8 ∧ crcbyte 0xAB#8 0x1B#8 = 0x6C#8 ∧ crcbyte 0x6C#8 0x10#8 = 0xC5#8 ∧
    crcbyte 0xC5#8 0x02#8 = 0x66#8 ∧ crcbyte 0x66#8 0x0A#8 = 0x08#8 ∧ crcbyte 0x08#8 0xF0#8 = 0x97#8 ∧
    ~~~ 0x97#8 = 0x68#8 := by decide

/-- S2.1, S2.2, S2.3: DUR 95 Active, 123 in SOF, 239 in BOUNDARY. -/
theorem test_classify :
    (hostRead (run .classify { State.reset with durL := 95#8, clsPol := .active }) 0x0D#5 = 0x09#8) ∧
    (hostRead (run .classify { State.reset with durL := 123#8, clsCtx := 1#2 }) 0x0D#5 = 0x04#8) ∧
    hostRead (run .classify { State.reset with durL := 239#8, clsCtx := 2#2 }) 0x0D#5 = 0x06#8 := by decide

/-- S2.4 and S2.5: CTX = 3 leaves CLS_RES and sets REJ; AMBIG depends on STRICT. -/
theorem test_classify_reserved_and_gap :
    (let s := run .classify { State.reset with clsCat := .eof, clsCtx := 3#2 }
     hostRead s 0x0D#5 = 0x06#8 ∧ hostRead s 0x02#5 = 0x40#8) ∧
    hostRead (run .classify { State.resetWith gapped [] 0 with durL := 99#8, clsPol := .active, strict := true }) 0x0D#5 =
      0x10#8 ∧
    hostRead (run .classify { State.resetWith gapped [] 0 with durL := 95#8 }) 0x0D#5 = 0x00#8 := by decide

/-! ### Host access and the cycle (95_test_vectors.md S7) -/

/-- CT2, CT3: undefined bits are not stored. -/
theorem test_write_masks :
    hostRead (wr 0x00#5 0xFF#8 idle) 0x00#5 = 0x03#8 ∧ hostRead (wr 0x0C#5 0xFF#8 idle) 0x0C#5 = 0x07#8 := by decide

/-- CT6: a reserved opcode. -/
theorem test_reserved_opcode : wr 0x01#5 0x08#8 idle = { idle with rej := true } := by decide

/-- CT11, CT14: BUF is guarded, CRC is not. -/
theorem test_guard :
    wr 0x10#5 0x55#8 sending = { sending with rej := true } ∧ wr 0x07#5 0x12#8 sending = { sending with crc := 0x12#8 } := by
  decide

/-- CT17, CT18. -/
theorem test_w1c :
    wr 0x02#5 0x02#8 { idle with done := true, rej := true } = { idle with rej := true } ∧
    wr 0x02#5 0x41#8 { idle with done := true, rej := true } = { idle with done := true } := by decide

/-- CT15, CT16: the tick phase ends the operation (TMO = 0), then the write sees what it left. -/
theorem test_completion_cycle :
    let s := run .receive { idle with tmoL := 0x00#8, tmoH := 0x00#8 }
    (cyc { writeInput 0x02#5 0x02#8 with tick := true } s).done = true ∧
    (let t := cyc { writeInput 0x01#5 0x01#8 with tick := true } s
     t.busy = true ∧ t.done = false ∧ t.result = .none) := by decide

/-- CT20, CT21: LINE takes the sample on a tick only. -/
theorem test_line :
    cyc (tickIn .active) idle = { idle with line := .active } ∧ cyc { tickIn .active with tick := false } idle = idle := by
  decide

/-- R22, 92 D21: the block samples its own drive, and drives one cycle after the tick that starts it. -/
theorem test_own_drive :
    (cyc (tickIn .passive) { idle with busy := true, phase := .txSof, op := .transmit, drive := .active }).line = .active := by
  decide

/-- The next step of `withFetchWord` runs the command, as the first one after reset (log 6). -/
theorem test_withFetchWord :
    nextOr State.reset (step (State.reset.withFetchWord 8 0x01)) = run .receive State.reset ∧
    nextOr State.reset (step (State.reset.withFetchWord 8 0x07)) = run .classify State.reset := by decide

/-! ### Single ticks (95_test_vectors.md S4, S5, through the rules' own corner cases) -/

/-- R153, corner case: 123 and 279 are accepted, 122 and 280 are not. -/
theorem test_sof_edges :
    let at' (d : Nat) : State := { State.reset with busy := true, phase := .rxSof, symTmr := BitVec.ofNat 16 d }
    (tickPhase .passive (at' 123)).phase = .rxData ∧ (tickPhase .passive (at' 279)).phase = .rxData ∧
    (tickPhase .passive (at' 122)).cause = .sofShort ∧ (tickPhase .active (at' 279)).cause = .sofLong := by decide

/-- R154: the sample that makes the run RX_EOD_MIN long ends the frame, at either level. -/
theorem test_eod_edges :
    (tickPhase .active (receiving Config.defaults .active 162)).result = .ok ∧
    (tickPhase .passive (receiving Config.defaults .passive 161)).result = .none := by decide

/-- R155's example: LAST = Passive, SYM_TMR = 128, Active: bit 1. -/
theorem test_transition :
    let t := tickPhase .active (receiving Config.defaults .passive 128)
    t.shift = 0x01#8 ∧ t.bits = 1#3 ∧ t.last = .active ∧ t.symTmr = 1#16 := by decide

/-- S3.2: the eighth bit of 0x28. -/
theorem test_byte_completion :
    let t := accumulate false { idle with shift := 0x14#8, bits := 7#3 }
    hostRead t 0x03#5 = 0x01#8 ∧ hostRead t 0x10#5 = 0x28#8 ∧ t.shift = 0x28#8 := by decide

/-- R156: the twelfth byte ends the frame. -/
theorem test_frame_full :
    let t := tickPhase .passive { receiving Config.defaults .active 64 with bytes := 11#4, bits := 7#3 }
    hostRead t 0x03#5 = 0x0C#8 ∧ t.result = .ok ∧ hostRead t 0x1B#5 = 0x01#8 := by decide

/-- R182: reaching idle wins on the tick the ceiling is reached; R185: the last sample of a Passive symbol is no contention. -/
theorem test_tx_priorities :
    (tickPhase .passive { State.reset with
      busy := true, phase := .txWaitIdle, symTmr := 279#16, waitTmr := 0xFFFE#16 }).phase = .txSof ∧
    (tickPhase .active { sending with txN := 2#16, symTmr := 0#16 }).cause = .contention ∧
    (tickPhase .active { sending with txN := 2#16, symTmr := 1#16 }).phase = .txData := by decide

/-- R186: the first symbol of 0x28 is Passive and Short, the second Active and Long (S3.3). -/
theorem test_first_symbols :
    let s := bufWrite { State.reset with busy := true, phase := .txSof, len := 1#8, symTmr := 199#16 } 0 0x28#8
    (tickPhase .active s).txN = 64#16 ∧ (tickPhase .active s).drive = .passive ∧
    (tickPhase .passive { tickPhase .active s with symTmr := 63#16 }).txN = 128#16 ∧
    (tickPhase .passive { tickPhase .active s with symTmr := 63#16 }).drive = .active := by decide

/-! ### Witnesses: concrete inputs that meet the hypotheses of each statement that has some, clause by clause -/

/-- Whether these inputs give a step from this state, with the hypotheses the step statements share. -/
def steps (s : State) (inp : CycleInput) : Bool :=
  decide s.params.Legal && decide (takeInput (queueFirst inp s) = (inp, s)) && !inp.rst

theorem witness_ResetCycleRestoresTheResetState :
    sending.params.Legal ∧ takeInput (queueFirst { tickIn .active with rst := true } sending) =
      ({ tickIn .active with rst := true }, sending) ∧ ({ tickIn .active with rst := true } : CycleInput).rst = true := by
  decide

/-- The largest legal and the least illegal RX_IFS_MIN. -/
theorem witness_IllegalParametersAreRefusedLegalOnesRun :
    legalWith (fun p => { p with rxIfsMin := 65535 }) = true ∧ legalWith (fun p => { p with rxIfsMin := 65536 }) = false := by
  decide

/-- A command byte, a write to another register, a tick alone, and nothing at all. -/
theorem witness_StepRunsTheDecodedCommand :
    steps idle (writeInput 0x01#5 0x02#8) = true ∧ decode 0x02#8 = .ok .transmit ∧
    steps sending (writeInput 0x1F#5 0xFF#8) = true ∧ steps sending (tickIn .active) = true ∧
    steps sending { tickIn .active with tick := false } = true := by decide

theorem witness_ReadsHaveNoSideEffect : (tickIn .active).we = false := by decide

theorem witness_OpcodeMapIsTheTable : 8 ≤ (0x08#8).toNat ∧ 8 ≤ (0xFF#8).toNat := by decide

theorem witness_DecodeAndEncodeAgree : Instr.classify.wf = true ∧ decode 0x07#8 = .ok .classify := by decide

/-- Busy and idle, the first and the last guarded address; 0x07 and 0x1C are not guarded. -/
theorem witness_GuardedWritesAreRefusedWhileBusy :
    guardedAddr 0x00#5 = true ∧ guardedAddr 0x1B#5 = true ∧ guardedAddr 0x07#5 = false ∧ guardedAddr 0x1C#5 = false ∧
    sending.busy = true ∧ idle.busy = false ∧ Memory.wf sending.buf = true ∧ Memory.wf idle.buf = true := by decide

theorem witness_ReadOnlyAndReservedWritesChangeNothing :
    (0x03#5).toNat ∈ [0x03, 0x09, 0x0D, 0x0E, 0x0F, 0x1C, 0x1D, 0x1E, 0x1F] ∧ (0x1F#5).toNat ∈ [0x1C, 0x1D, 0x1E, 0x1F] ∧
    (0xBD#8).getLsbD 1 = false ∧ (0xBD#8).getLsbD 6 = false ∧ 0x1C ≤ (0x1C#5).toNat := by decide

/-- The tick of the reception `waiting` with TMO = 0 ends it, in the cycle of a write to STATUS. -/
theorem witness_CompletionInTheClearingCycleSurvives :
    let s := { waiting with tmoL := 0x00#8, tmoH := 0x00#8 }
    BlockInv s ∧ s.params.Legal ∧ s.busy = true ∧
      (tickPhase (sampled .passive s) s).busy = false ∧ steps s { writeInput 0x02#5 0x02#8 with tick := true } = true := by
  exact ⟨.of_rxWaitIdle ⟨rfl, rfl, rfl, rfl, rfl⟩ rfl rfl rfl rfl rfl (by decide), by decide, by decide, by decide, by decide⟩

theorem witness_ReservedOpcodeSetsRejOnly :
    steps sending (writeInput 0x01#5 0x08#8) = true ∧ steps idle (writeInput 0x01#5 0xFF#8) = true := by decide

/-- Each refusal, and both ways REJ falls. -/
theorem witness_RejIsSetOnlyByRefusalsAndSticky :
    (cyc (writeInput 0x01#5 0x08#8) idle).rej = true ∧ (cyc (writeInput 0x01#5 0x01#8) sending).rej = true ∧
    (cyc (writeInput 0x01#5 0x02#8) sending).rej = true ∧
    (cyc (writeInput 0x01#5 0x07#8) { idle with clsCtx := 3#2 }).rej = true ∧
    (cyc (writeInput 0x1B#5 0x00#8) sending).rej = true ∧
    (cyc (writeInput 0x02#5 0x40#8) { idle with rej := true }).rej = false ∧
    (cyc { tickIn .passive with rst := true } { idle with rej := true }).rej = false := by decide

/-- DONE rises by a tick, by ABORT and by DataError; it falls by W1C, by acceptance and by reset. -/
theorem witness_IrqFollowsDoneAndDoneFollowsCompletion :
    (cyc (tickIn .passive) { waiting with tmoL := 0x00#8, tmoH := 0x00#8 }).done = true ∧
    (cyc (writeInput 0x01#5 0x03#8) sending).done = true ∧ (cyc (writeInput 0x01#5 0x02#8) idle).done = true ∧
    (cyc (writeInput 0x02#5 0x02#8) { idle with done := true }).done = false ∧
    (cyc (writeInput 0x01#5 0x01#8) { idle with done := true }).done = false ∧
    (cyc { tickIn .passive with rst := true } { idle with done := true }).done = false := by decide

/-- The last byte; a canonical buffer that lists something. -/
theorem witness_FrameBufferReadsBackAndStaysCanonical :
    Memory.wf (bufWrite idle 11 0x55#8).buf = true ∧ (bufWrite idle 11 0x55#8).buf ≠ [] ∧ 11 < 12 := by decide

theorem witness_NopAndAbortAreTheControlCommands : sending.busy = true ∧ idle.busy = false := by decide

theorem witness_ReceiveStartsOrIsRefused : idle.busy = false ∧ sending.busy = true := by decide

/-- LEN 0, 1, 12 and 13. -/
theorem witness_TransmitStartsOrRaisesOrIsRefused :
    idle.params.maxBytes = 12 ∧ sending.busy = true ∧ idle.busy = false ∧ idle.len.toNat < 1 ∧
    1 ≤ ({ idle with len := 1#8 } : State).len.toNat ∧ ({ idle with len := 12#8 } : State).len.toNat ≤ 12 ∧
    12 < ({ idle with len := 13#8 } : State).len.toNat := by decide

/-- The four contexts, with a duration in the gap of the data windows. -/
theorem witness_ClassifyWritesClsRes :
    ({ idle with clsCtx := 0#2 } : State).clsCtx = 0#2 ∧ ({ idle with clsCtx := 1#2 } : State).clsCtx = 1#2 ∧
    ({ idle with clsCtx := 2#2 } : State).clsCtx = 2#2 ∧ ({ idle with clsCtx := 3#2 } : State).clsCtx = 3#2 ∧
    gapped.rxShortLim ≤ 99 ∧ ¬ (gapped.rxLongMin ≤ 99 ∧ 99 < gapped.rxLongLim) ∧ ¬ gapped.rxEodMin ≤ 99 := by decide

/-- Each outcome that the later clauses assume, at the edge of its window (S2.5, S2.2). -/
theorem witness_ClassifiersPartitionTheTickAxis :
    gapped.Legal ∧ (162#16).toNat ≤ (163#16).toNat ∧ classifyData gapped 89#16 = .short ∧
    classifyData gapped 162#16 = .long ∧ classifyData gapped 163#16 = .eod ∧ classifyData gapped 99#16 = .ambig ∧
    classifySof gapped 279#16 = .sof ∧ classifySof gapped 280#16 = .tooLong := by decide

theorem witness_SymbolLengthsDecodeToTheirBit : gapped.Legal ∧ gapped.RoundTripSafe := by decide

/-- Inside a byte, and the last bit of the last byte. -/
theorem witness_AccumulateShiftsInAndCompletesBytes :
    Memory.wf idle.buf = true ∧ idle.bits.toNat < 7 ∧ idle.bytes.toNat < 12 ∧
    ({ idle with bytes := 11#4, bits := 7#3 } : State).bytes.toNat < 12 ∧
    ({ idle with bytes := 11#4, bits := 7#3 } : State).bits.toNat = 7 := by decide

theorem witness_EightBitsMakeAByte :
    Memory.wf idle.buf = true ∧ ({ idle with bytes := 11#4 } : State).bytes.toNat < 12 ∧ idle.bits = 0#3 := by decide

theorem witness_InitialWaitTicks :
    waiting.phase = .rxWaitIdle ∧ ({ waiting with phase := .rxWaitSof } : State).phase = .rxWaitSof := by decide

theorem witness_SofTick : ({ waiting with phase := .rxSof } : State).phase = .rxSof := by decide

theorem witness_HoldTick :
    (receiving tiny .active 2).phase = .rxData ∧ Level.active = (receiving tiny .active 2).last := by decide

/-- Each clause of the transition at an edge of its window, in the gapped set; EOD in a set with RX_EOD_MIN = 1. -/
theorem witness_TransitionTick :
    let s (d : Nat) := receiving gapped .passive d
    (s 0).params.maxBytes = 12 ∧ (s 0).phase = .rxData ∧ Level.active ≠ (s 0).last ∧ (s 0).bytes.toNat < 12 ∧
    (s 33).symTmr.toNat < gapped.rxShortMin ∧
    (gapped.rxShortMin ≤ (s 89).symTmr.toNat ∧ (s 89).symTmr.toNat < gapped.rxShortLim) ∧
    (gapped.rxLongMin ≤ (s 100).symTmr.toNat ∧ (s 162).symTmr.toNat < gapped.rxLongLim) ∧
    (gapped.rxShortLim ≤ (s 99).symTmr.toNat ∧ ¬ gapped.rxLongMin ≤ (s 99).symTmr.toNat) ∧
    gapped.rxEodMin ≤ (s 163).symTmr.toNat := by decide

theorem witness_TransmitIdleWaitTick : (run .transmit { idle with len := 1#8 }).phase = .txWaitIdle := by decide

theorem witness_TransmitSofAndEofTicks :
    ({ sending with phase := .txSof } : State).phase = .txSof ∧ ({ sending with phase := .txEof } : State).phase = .txEof := by
  decide

/-- The last bit of the last byte and the bit before it. -/
theorem witness_TransmitDataTick :
    sending.phase = .txData ∧ ({ sending with bytes := 11#4, bits := 7#3 } : State).bytes.toNat < 12 := by decide

theorem witness_ContentionStopsDriving :
    let s := { sending with txN := 2#16 }
    s.phase = .txData ∧ s.txPol = .passive ∧ oneMore s.symTmr < s.txN.toNat := by decide

theorem witness_TickPhaseFrame :
    idle.phase = .idle ∧ sending.phase ≠ .rxData ∧ Memory.wf sending.buf = true ∧ 1 ≠ sending.bytes.toNat := by decide

/-- An accepted RECEIVE, which zeroes a counter that was not 0, and a write that leaves it. -/
theorem witness_TimersOnlyAdvanceOrRestart :
    (nextOr idle (hostWrite idle 0x01#5 0x01#8 { idle with symTmr := 5#16 })).symTmr = 0#16 ∧
    (nextOr idle (hostWrite idle 0x07#5 0x01#8 { idle with symTmr := 5#16 })).symTmr = 5#16 := by decide

/-- The three host writes that move PHASE. -/
theorem witness_PhaseMovesOnlyByItsRules :
    (wr 0x01#5 0x01#8 idle).phase ≠ idle.phase ∧ (wr 0x01#5 0x02#8 { idle with len := 12#8 }).phase ≠ idle.phase ∧
    (wr 0x01#5 0x03#8 sending).phase ≠ sending.phase := by decide

theorem sending_inv : BlockInv sending :=
  .of_txData ⟨rfl, rfl, rfl, rfl, rfl⟩ rfl rfl rfl (by decide) (by decide) ⟨by decide, by decide⟩ (by decide)

/-- A transmission that goes on through a tick and a refused write. -/
theorem witness_OperandsDoNotChangeUnderAnOperation :
    BlockInv sending ∧ steps sending { writeInput 0x10#5 0x55#8 with tick := true } = true ∧ sending.busy = true ∧
      (tickPhase (sampled .passive sending) sending).busy = true ∧ sending.op = .transmit ∧ 1 ≠ sending.bytes.toNat :=
  ⟨sending_inv, by decide, by decide, by decide, by decide, by decide⟩

theorem witness_CrcUnitAndEngineAreIndependent : Instr.crcByte ∈ [Instr.crcInit, Instr.crcBit, Instr.crcByte] := by decide

/-- A reception that a tick ends, and a transmission that contention ends. -/
theorem witness_TickOutcomesAreTheListedOnes :
    (let s := { waiting with tmoL := 0x00#8, tmoH := 0x00#8 }
     BlockInv s ∧ s.params.Legal ∧ s.busy = true ∧ (tickPhase .passive s).busy = false ∧ s.phase.isRx = true) ∧
    (let s := { sending with len := 0x02#8, buf := [(0x10, 0x80#8)], txN := 2#16 }
     BlockInv s ∧ s.params.Legal ∧ s.busy = true ∧ (tickPhase .active s).busy = false ∧ s.phase.isTx = true) := by
  refine ⟨⟨.of_rxWaitIdle ⟨rfl, rfl, rfl, rfl, rfl⟩ rfl rfl rfl rfl rfl (by decide), by decide, by decide, by decide,
      by decide⟩,
    ⟨.of_txData ⟨rfl, rfl, rfl, rfl, rfl⟩ rfl rfl rfl (by decide) (by decide) ⟨by decide, by decide⟩ (by decide), by decide,
      by decide, by decide, by decide⟩⟩

/-- A symbol in the gap, where BERR follows STRICT. -/
theorem witness_ClassifyPredictsTheReceiver :
    let s := { receiving gapped .passive 99 with strict := true }
    let c := { State.resetWith gapped [] 0 with durL := 99#8, strict := true }
    s.phase = .rxData ∧ Level.active ≠ s.last ∧ s.result = .none ∧ c.params = s.params ∧ c.clsCtx = 0#2 ∧
      c.clsPol = s.last ∧ c.strict = s.strict ∧ durNat c = s.symTmr.toNat ∧ (run .classify c).clsBerr = true := by decide

theorem witness_EveryStepKeepsInv : BlockInv sending ∧ (cyc (tickIn .passive) sending).symTmr = 0#16 :=
  ⟨sending_inv, by decide⟩

theorem reachable_cyc {s t : State} (h : Reachable s) (e : t = nextOr s (step s)) (hl : s.params.Legal) : Reachable t := by
  refine .step s t h ?_
  rw [step_of_legal hl] at e ⊢
  obtain ⟨u, hu, -⟩ := cycle_cases (takeInput s).1 (busLevel (takeInput s).1.ext [s.drive]) (takeInput s).2
  rw [hu] at e ⊢
  rw [e]; rfl

/-- The steps of a queue, one per input. -/
def runQueue : Nat → State → State
  | 0, s => s
  | n + 1, s => runQueue n (nextOr s (step s))

/-- Whether the parameters are legal at each of the next `n` steps. -/
def legalQueue : Nat → State → Bool
  | 0, _ => true
  | n + 1, s => decide s.params.Legal && legalQueue n (nextOr s (step s))

theorem reachable_runQueue : ∀ (n : Nat) (s : State), Reachable s → legalQueue n s = true → Reachable (runQueue n s)
  | 0, _, h, _ => h
  | n + 1, s, h, hl => by
    simp only [legalQueue, Bool.and_eq_true, decide_eq_true_eq] at hl
    exact reachable_runQueue n _ (reachable_cyc h rfl hl.1) hl.2

/-- LEN = 1 and TRANSMIT, then the three ticks of the idle wait and the two of the SOF. -/
def toData : State :=
  State.resetWith tiny
    [writeInput 0x04#5 0x01#8, writeInput 0x01#5 0x02#8, tickIn .passive, tickIn .passive, tickIn .passive,
      tickIn .passive, tickIn .passive] 0

theorem witness_SymbolInFlightIsTheFramesSymbol : Reachable (runQueue 7 toData) ∧ (runQueue 7 toData).phase = .txData :=
  ⟨reachable_runQueue 7 _ (.reset _ _ _ (by decide)) (by decide), by decide⟩

theorem witness_ReachableStatesAreCoherent : Reachable (runQueue 4 toData) ∧ (runQueue 4 toData).phase = .txWaitIdle :=
  ⟨reachable_runQueue 4 _ (.reset _ _ _ (by decide)) (by decide), by decide⟩

theorem witness_CrcDetectsEveryOneByteChange : (0x00#8 : Byte) ≠ 0x80#8 := by decide

/-- TMO = 0, the least bound. -/
theorem witness_ReceiveEndsWithinItsBound :
    let s := { idle with tmoL := 0x00#8, tmoH := 0x00#8 }
    s.params.Legal ∧ 2 ≤ s.params.rxEodMin ∧ s.busy = false ∧ exec .receive s = .next (run .receive s) :=
  ⟨by decide, by decide, by decide, rfl⟩

theorem witness_TransmitEndsWithinItsBound :
    let s := { idle with len := 0x0C#8 }
    s.params.Legal ∧ s.params.txShort ≤ s.params.txLong ∧ s.busy = false ∧ 1 ≤ s.len.toNat ∧ s.len.toNat ≤ 12 ∧
      exec .transmit s = .next (run .transmit s) :=
  ⟨by decide, by decide, by decide, by decide, by decide, rfl⟩

theorem witness_TransmitOnAnIdleBusTakesExactlyItsTime :
    let s := { idle with len := 0x01#8 }
    s.params.Legal ∧ s.params.rxIfsMin ≤ s.params.txIdleCeil ∧ s.busy = false ∧ s.drive = .passive ∧ 1 ≤ s.len.toNat ∧
      s.len.toNat ≤ 12 ∧ exec .transmit s = .next (run .transmit s) :=
  ⟨by decide, by decide, by decide, by decide, by decide, by decide, rfl⟩

/-- TMO = RX_IFS_MIN, the largest. -/
theorem witness_ShortTimeoutAlwaysGivesNoData :
    let s := { idle with tmoL := 0x03#8, tmoH := 0x00#8 }
    s.params.Legal ∧ tmoNat s ≤ s.params.rxIfsMin ∧ s.busy = false ∧ exec .receive s = .next (run .receive s) ∧
      [Level.passive, .active, .passive].length = max (tmoNat s) 1 :=
  ⟨by decide, by decide, by decide, rfl, by decide⟩

theorem witness_LoopbackRoundTrip :
    let x := { idle with busy := true, phase := .txSof, op := .transmit, drive := .active, len := 0x0C#8 }
    let y := { waiting with phase := .rxWaitSof }
    x.params = y.params ∧ x.params.Legal ∧ x.params.RoundTripSafe ∧ x.phase = .txSof ∧ x.drive = .active ∧
      x.symTmr = 0#16 ∧ x.bytes = 0#4 ∧ x.bits = 0#3 ∧ 1 ≤ x.len.toNat ∧ x.len.toNat ≤ 12 ∧ y.phase = .rxWaitSof ∧
      y.drive = .passive ∧ y.bytes = 0#4 ∧ y.bits = 0#3 ∧ Memory.wf y.buf = true := by decide

/-- Y's TMO at its least, RX_IFS_MIN + 1. -/
theorem witness_LoopbackFromTheCommands :
    let x := { idle with len := 0x01#8 }
    let y := { idle with tmoL := 0x04#8, tmoH := 0x00#8 }
    (x.params = y.params ∧ x.params.Legal ∧ x.params.RoundTripSafe ∧ x.params.rxIfsMin ≤ x.params.txIdleCeil ∧
      x.busy = false ∧ y.busy = false ∧ x.drive = .passive ∧ y.drive = .passive ∧ 1 ≤ x.len.toNat ∧ x.len.toNat ≤ 12 ∧
      x.params.rxIfsMin + 1 ≤ tmoNat y ∧ Memory.wf y.buf = true) ∧
      exec .transmit x = .next (run .transmit x) ∧ exec .receive y = .next (run .receive y) :=
  ⟨by decide, rfl, rfl⟩

/-- The tiny set with a Long symbol two ticks longer than a Short one of two. -/
def tinyWide : Params := { tiny with rxLongLim := 5, rxEodMin := 5, rxEofMin := 5, rxIfsMin := 5, txShort := 2, txLong := 4 }

theorem witness_LongerPassiveSymbolLosesTheCollision :
    let y := { sending with params := tinyWide, txN := 2#16 }
    let x := { sending with params := tinyWide, txN := 4#16, buf := [(0x10, 0x80#8)] }
    (x.params = y.params ∧ x.params.Legal ∧ 2 ≤ x.params.txShort ∧ x.params.txShort + 1 < x.params.txLong) ∧
      BlockInv x ∧ BlockInv y ∧
      (x.phase = .txData ∧ y.phase = .txData ∧ x.symTmr = 0#16 ∧ y.symTmr = 0#16 ∧ x.txPol = .passive ∧
        y.txPol = .passive ∧ x.txN.toNat = x.params.txLong ∧ y.txN.toNat = y.params.txShort) :=
  ⟨by decide,
    .of_txData ⟨rfl, rfl, rfl, rfl, rfl⟩ rfl rfl rfl (by decide) (by decide) ⟨by decide, by decide⟩ (by decide),
    .of_txData ⟨rfl, rfl, rfl, rfl, rfl⟩ rfl rfl rfl (by decide) (by decide) ⟨by decide, by decide⟩ (by decide), by decide⟩

end Sys2Proof.Tests
end

section
/-! PROOFS. The state and its registers (10_state.md): the values after reset, the busy guard on the operand registers,
and the addresses that ignore writes. -/

namespace Sys2Proof.Machine

/-! ### The read-only and the reserved addresses -/

theorem Reg.ofAddr_reserved : ∀ a : Addr, 0x1C ≤ a.toNat → ∃ i, Reg.ofAddr a = .reserved i := by decide

/-- The registers that are read-only as a whole (10_state.md R41). -/
theorem Reg.ofAddr_readOnly : ∀ a : Addr, a.toNat ∈ [0x03, 0x09, 0x0D, 0x0E, 0x0F] →
    Reg.ofAddr a = .count ∨ Reg.ofAddr a = .crcOut ∨ Reg.ofAddr a = .clsRes ∨ Reg.ofAddr a = .state ∨
      Reg.ofAddr a = .errCause := by decide

/-! ### What the guarded registers read -/

theorem bufWrite_of_lt {i : Nat} (s : State) (v : Byte) (h : i < 12) :
    bufWrite s i v = { s with buf := Memory.write s.buf (bufBase + i) v } := if_pos h

/-- CTRL reads back its two defined bits (45_control.md R240). -/
theorem ctrlByte_writeCtrl (s : State) (v : Byte) : ctrlByte (writeCtrl v s) = v &&& 0x03#8 := by
  have h : ∀ v : Byte, 0#6 ++ BitVec.ofBool (v.getLsbD 1) ++ BitVec.ofBool (v.getLsbD 0) = v &&& 0x03#8 := by decide
  exact h v

/-- A read is as before where the guarded register at that address is: the busy guard's writes reach no other read. -/
theorem hostRead_congr {s t : State} {b : Addr}
    (frame : t = { s with
      strict := t.strict, ie := t.ie, len := t.len, tmoL := t.tmoL, tmoH := t.tmoH, buf := t.buf })
    (hctrl : b = 0x00#5 → ctrlByte t = ctrlByte s) (hlen : b = 0x04#5 → t.len = s.len)
    (htmoL : b = 0x05#5 → t.tmoL = s.tmoL) (htmoH : b = 0x06#5 → t.tmoH = s.tmoH)
    (hbuf : ∀ i : Fin 12, b = Reg.addr (.buf i) → bufRead t i = bufRead s i) : hostRead t b = hostRead s b := by
  have hb := Reg.addr_ofAddr b
  unfold hostRead
  generalize Reg.ofAddr b = r at hb ⊢
  cases r with
  | ctrl => exact hctrl hb.symm
  | len => exact hlen hb.symm
  | tmoL => exact htmoL hb.symm
  | tmoH => exact htmoH hb.symm
  | buf i => exact hbuf i hb.symm
  | _ => rw [frame] <;> rfl

theorem hostRead_buf (s : State) (i : Fin 12) : hostRead s (Reg.addr (.buf i)) = bufRead s i := by
  unfold hostRead
  rw [Reg.ofAddr_buf]

theorem keptBits_buf (v : Byte) (i : Fin 12) : keptBits (Reg.addr (.buf i)) v = v := by
  have h : ∀ i : Fin 12, (Reg.addr (.buf i)).toNat ≠ 0x00 ∧ (Reg.addr (.buf i)).toNat ≠ 0x0C := by decide
  simp [keptBits, h i]

/-! ### The guarded write -/

/-- `t` is `s` with `v` stored at the address `a`: the defined bits read back there, every other address reads as
before, and neither the hidden state nor the parameters moved (45_control.md R233, R240). -/
structure StoredAt (a : Addr) (v : Byte) (s t : State) : Prop where
  read_same : hostRead t a = keptBits a v
  read_other : ∀ b, b ≠ a → hostRead t b = hostRead s b
  hidden : t.symTmr = s.symTmr ∧ t.waitTmr = s.waitTmr ∧ t.last = s.last ∧ t.shift = s.shift ∧ t.txPol = s.txPol ∧
    t.txN = s.txN ∧ t.params = s.params

theorem storedAt_writeCtrl (s : State) (v : Byte) : StoredAt 0x00#5 v s (writeCtrl v s) where
  read_same := ctrlByte_writeCtrl s v
  read_other _ h := hostRead_congr rfl (absurd · h) (fun _ => rfl) (fun _ => rfl) (fun _ => rfl) fun _ _ => rfl
  hidden := ⟨rfl, rfl, rfl, rfl, rfl, rfl, rfl⟩

theorem storedAt_len (s : State) (v : Byte) : StoredAt 0x04#5 v s { s with len := v } where
  read_same := rfl
  read_other _ h := hostRead_congr rfl (fun _ => rfl) (absurd · h) (fun _ => rfl) (fun _ => rfl) fun _ _ => rfl
  hidden := ⟨rfl, rfl, rfl, rfl, rfl, rfl, rfl⟩

theorem storedAt_tmoL (s : State) (v : Byte) : StoredAt 0x05#5 v s { s with tmoL := v } where
  read_same := rfl
  read_other _ h := hostRead_congr rfl (fun _ => rfl) (fun _ => rfl) (absurd · h) (fun _ => rfl) fun _ _ => rfl
  hidden := ⟨rfl, rfl, rfl, rfl, rfl, rfl, rfl⟩

theorem storedAt_tmoH (s : State) (v : Byte) : StoredAt 0x06#5 v s { s with tmoH := v } where
  read_same := rfl
  read_other _ h := hostRead_congr rfl (fun _ => rfl) (fun _ => rfl) (fun _ => rfl) (absurd · h) fun _ _ => rfl
  hidden := ⟨rfl, rfl, rfl, rfl, rfl, rfl, rfl⟩

theorem storedAt_bufWrite {s : State} (hw : Memory.wf s.buf = true) (i : Fin 12) (v : Byte) :
    StoredAt (Reg.addr (.buf i)) v s (bufWrite s i v) where
  read_same := by simp [hostRead_buf, bufRead_bufWrite s i i v hw, keptBits_buf]
  read_other _ h := by
    have hframe := bufWrite_of_lt s v i.isLt
    refine hostRead_congr (hframe ▸ rfl) ?_ (fun _ => by simp) (fun _ => by simp) (fun _ => by simp) fun j e => ?_
    · exact fun _ => hframe ▸ rfl
    · have hj : j.val ≠ i.val := fun hji => h (Fin.ext hji ▸ e)
      simp [bufRead_bufWrite s i j v hw, hj]
  hidden := by simp

theorem hostWrite_buf (s0 s : State) (i : Fin 12) (v : Byte) :
    hostWrite s0 (Reg.addr (.buf i)) v s = .next (busyGuard (fun t => bufWrite t i v) s) := by
  unfold hostWrite
  rw [Reg.ofAddr_buf]

/-- A write to a guarded address goes through the busy guard, and what it guards stores the value (10_state.md R40,
45_control.md R239). -/
theorem hostWrite_guarded (s0 : State) {s : State} {a : Addr} (v : Byte) (ha : guardedAddr a = true)
    (hw : Memory.wf s.buf = true) :
    ∃ write, hostWrite s0 a v s = .next (busyGuard write s) ∧ StoredAt a v s (write s) := by
  obtain rfl | rfl | rfl | rfl | ⟨i, rfl⟩ := guardedAddr_cases a ha
  · exact ⟨_, rfl, storedAt_writeCtrl s v⟩
  · exact ⟨_, rfl, storedAt_len s v⟩
  · exact ⟨_, rfl, storedAt_tmoL s v⟩
  · exact ⟨_, rfl, storedAt_tmoH s v⟩
  · exact ⟨_, hostWrite_buf s0 s i v, storedAt_bufWrite hw i v⟩

/-! ### Writes that are ignored -/

theorem hostWrite_readOnly (s0 s : State) {a : Addr} (v : Byte) (ha : a.toNat ∈ [0x03, 0x09, 0x0D, 0x0E, 0x0F]) :
    hostWrite s0 a v s = .next s := by
  unfold hostWrite
  obtain h | h | h | h | h := Reg.ofAddr_readOnly a ha <;> rw [h]

theorem hostWrite_reserved (s0 s : State) {a : Addr} (v : Byte) (ha : 0x1C ≤ a.toNat) :
    hostWrite s0 a v s = .next s := by
  obtain ⟨i, h⟩ := Reg.ofAddr_reserved a ha
  unfold hostWrite
  rw [h]

theorem hostRead_reserved (s : State) {a : Addr} (ha : 0x1C ≤ a.toNat) : hostRead s a = 0x00#8 := by
  obtain ⟨i, h⟩ := Reg.ofAddr_reserved a ha
  unfold hostRead
  rw [h]

/-- A value with 0 at both write-1-to-clear bits clears nothing (45_control.md R238). -/
theorem statusW1C_of_zeros (s0 s : State) {v : Byte} (hdone : v.getLsbD 1 = false) (hrej : v.getLsbD 6 = false) :
    statusW1C s0 v s = s := by
  simp only [statusW1C, hdone, hrej, Bool.false_and, Bool.false_eq_true, if_false]

/-! ### Reset -/

/-- The reset column of 10_state.md R45, as the host reads it: only TMO (300) and CRC (0xFF) are not 0. -/
theorem hostRead_reset : ∀ a : Addr, hostRead State.reset a =
    if a.toNat = 0x05 then 0x2C#8 else if a.toNat = 0x06 then 0x01#8 else if a.toNat = 0x07 then 0xFF#8 else 0x00#8 := by
  decide

end Sys2Proof.Machine
end

section
/-! The statements of 10_state.md. -/

open Sys2Proof Sys2Proof.Machine

/-- Settles O10: the write goes through the busy guard, which refuses it or lets it store. -/
theorem guardedWritesAreRefusedWhileBusy : Obligations.GuardedWritesAreRefusedWhileBusy := by
  intro s0 s a v ha hw
  obtain ⟨write, hwrite, hstored⟩ := hostWrite_guarded s0 v ha hw
  constructor
  · intro hbusy
    rw [hwrite, busyGuard_of_busy write hbusy]
    rfl
  · intro hidle
    rw [busyGuard_of_idle write hidle] at hwrite
    exact ⟨write s, hwrite, hstored.read_same, hstored.read_other, hstored.hidden⟩

/-- Settles O1: the 32 reads are the table of R45, and the hidden state and the outputs are fields of the reset state. -/
theorem resetStateHoldsSpecValues : Obligations.ResetStateHoldsSpecValues :=
  ⟨hostRead_reset, rfl, rfl, rfl, rfl, rfl, rfl, fun _ => ⟨rfl, rfl⟩⟩

/-- Settles O12, by the kind of the address: a read-only register, a reserved one, or STATUS. -/
theorem readOnlyAndReservedWritesChangeNothing : Obligations.ReadOnlyAndReservedWritesChangeNothing := by
  intro s0 s a v
  refine ⟨fun ha => ?_, fun ha hdone hrej => ?_, hostRead_reserved s⟩
  · have hsplit : a.toNat ∈ [0x03, 0x09, 0x0D, 0x0E, 0x0F] ∨ 0x1C ≤ a.toNat := by
      simp only [List.mem_cons, List.not_mem_nil, or_false] at ha ⊢
      omega
    exact hsplit.elim (hostWrite_readOnly s0 s v) (hostWrite_reserved s0 s v)
  · subst ha
    exact congrArg Host.Outcome.next (statusW1C_of_zeros s0 s hdone hrej)

end

section
/-! PROOFS. The opcode map and the field codes (30_encoding.md): each command's byte decodes to it, and no field of a
register takes a reserved code (R84). -/

namespace Sys2Proof

/-- Each row of the opcode map is read back by the decoder (30_encoding.md R83). -/
theorem decode_encode (i : Instr) : decode (encode i) = .ok i := by cases i <;> rfl

/-- CAT code 3 is reserved (30_encoding.md R86). -/
theorem Category.code_ne_reserved (c : Category) : c.code ≠ 3#3 := by cases c <;> decide

/-- RESULT codes 6 and 7 are reserved (30_encoding.md R87). -/
theorem ResultCode.code_lt (r : ResultCode) : r.code.toNat < 6 := by cases r <;> decide

/-- ERRCAUSE code 7 is reserved (30_encoding.md R88). -/
theorem Cause.code_lt (c : Cause) : c.code.toNat < 7 := by cases c <;> decide

/-- PHASE codes 9 to 15 are reserved (30_encoding.md R89). -/
theorem Phase.code_lt (p : Phase) : p.code.toNat < 9 := by cases p <;> decide

end Sys2Proof
end

section
/-! The statements of 30_encoding.md. -/

open Sys2Proof Sys2Proof.Machine

/-- Settles O6: the eight bytes are the encodings of the eight commands, and the decoder rejects the rest. -/
theorem opcodeMapIsTheTable : Obligations.OpcodeMapIsTheTable :=
  ⟨decode_encode .nop, decode_encode .receive, decode_encode .transmit, decode_encode .abort, decode_encode .crcInit,
    decode_encode .crcBit, decode_encode .crcByte, decode_encode .classify, decode_reserved⟩

/-- Settles O8: the tables are read off the code functions, and the reserved codes are excluded constructor by
constructor. -/
theorem fieldCodesAreTheTables : Obligations.FieldCodesAreTheTables :=
  ⟨rfl, rfl, rfl, rfl, rfl, rfl, Category.code_ne_reserved, ResultCode.code_lt, Cause.code_lt, Phase.code_lt⟩

end

section
/-! PROOFS. The classifiers by their windows (40_classifier.md R104 to R106), the bit decision of each window
(41_symbol_decoder.md R131), and CLASSIFY's four contexts (40_classifier.md R108). -/

namespace Sys2Proof.Machine

/-! ### The bit of a symbol -/

theorem bitOfShort_eq (pol : Level) : bitOfShort pol = decide (pol = .active) := by cases pol <;> rfl

theorem bitOfLong_eq (pol : Level) : bitOfLong pol = decide (pol = .passive) := by cases pol <;> rfl

/-! ### What a duration decodes to, window by window -/

section

variable {p : Params} {d : Ticks} (pol : Level) (strict : Bool)

theorem decodeSymbol_of_glitch (hglitch : d.toNat < p.rxShortMin) :
    decodeSymbol p d pol strict = { cat := .invalid, bit := false, berr := true, cause := .glitch } := by
  have hclass : classifyData p d = .glitch := if_pos hglitch
  simp only [decodeSymbol, hclass]

theorem decodeSymbol_of_short (hmin : p.rxShortMin ≤ d.toNat) (hlim : d.toNat < p.rxShortLim) :
    decodeSymbol p d pol strict =
      { cat := .short, bit := decide (pol = .active), berr := false, cause := .none } := by
  have hclass : classifyData p d = .short := by simp [classifyData, hmin.not_gt, hlim]
  simp only [decodeSymbol, hclass, bitOfShort_eq]

theorem decodeSymbol_of_long (hmin : p.rxShortMin ≤ d.toNat) (hlim : p.rxShortLim ≤ d.toNat)
    (hlong : p.rxLongMin ≤ d.toNat ∧ d.toNat < p.rxLongLim) :
    decodeSymbol p d pol strict =
      { cat := .long, bit := decide (pol = .passive), berr := false, cause := .none } := by
  have hclass : classifyData p d = .long := by simp [classifyData, hmin.not_gt, hlim.not_gt, hlong]
  simp only [decodeSymbol, hclass, bitOfLong_eq]

theorem decodeSymbol_of_eod (hmin : p.rxShortMin ≤ d.toNat) (hlim : p.rxShortLim ≤ d.toNat)
    (hlong : ¬ (p.rxLongMin ≤ d.toNat ∧ d.toNat < p.rxLongLim)) (heod : p.rxEodMin ≤ d.toNat) :
    decodeSymbol p d pol strict = { cat := .eod, bit := false, berr := false, cause := .none } := by
  have hclass : classifyData p d = .eod := by
    simp only [classifyData, hmin.not_gt, hlim.not_gt, hlong, heod, if_false, if_true]
  simp only [decodeSymbol, hclass]

/-- In a gap STRICT decides whether the symbol is an error. -/
theorem decodeSymbol_of_gap (hmin : p.rxShortMin ≤ d.toNat) (hlim : p.rxShortLim ≤ d.toNat)
    (hlong : ¬ (p.rxLongMin ≤ d.toNat ∧ d.toNat < p.rxLongLim)) (heod : d.toNat < p.rxEodMin) :
    decodeSymbol p d pol strict =
      { cat := .invalid, bit := false, berr := strict, cause := if strict then .ambiguous else .none } := by
  have hclass : classifyData p d = .ambig := by
    simp only [classifyData, hmin.not_gt, hlim.not_gt, hlong, heod.not_ge, if_false]
  cases strict <;> simp [decodeSymbol, hclass]

end

/-! ### CLASSIFY, context by context -/

section

variable {s : State}

/-- What the DATA context stores is the symbol decision of the duration. -/
theorem exec_classify_data {r : SymbolDecision} (h : s.clsCtx = 0#2)
    (hr : decodeSymbol s.params (dur s) s.clsPol s.strict = r) :
    exec .classify s = .next (setClsRes r.cat r.bit r.berr s) := by
  simp [exec, execClassify, h, Context.ofCode, classifyInData, hr]

theorem exec_classify_sof (h : s.clsCtx = 1#2) : exec .classify s = .next (classifyInSof s) := by
  simp [exec, execClassify, h, Context.ofCode]

theorem exec_classify_boundary (h : s.clsCtx = 2#2) : exec .classify s = .next (classifyInBoundary s) := by
  simp [exec, execClassify, h, Context.ofCode]

theorem exec_classify_reserved (h : s.clsCtx = 3#2) : exec .classify s = .next (reject s) := by
  simp [exec, execClassify, h, Context.ofCode]

theorem classifyInSof_of_window (h : s.params.rxSofMin ≤ (dur s).toNat ∧ (dur s).toNat ≤ s.params.rxSofMax) :
    classifyInSof s = setClsRes .sof false false s := by
  obtain ⟨hmin, hmax⟩ := h
  have hclass : classifySof s.params (dur s) = .sof := by simp [classifySof, hmin.not_gt, hmax.not_gt]
  simp only [classifyInSof, hclass]

/-- A duration below and one above the SOF window give the same result. -/
theorem classifyInSof_of_outside (h : ¬ (s.params.rxSofMin ≤ (dur s).toNat ∧ (dur s).toNat ≤ s.params.rxSofMax)) :
    classifyInSof s = setClsRes .invalid false true s := by
  by_cases hmin : (dur s).toNat < s.params.rxSofMin
  · have hclass : classifySof s.params (dur s) = .tooShort := if_pos hmin
    simp only [classifyInSof, hclass]
  · have hmax : s.params.rxSofMax < (dur s).toNat := by omega
    have hclass : classifySof s.params (dur s) = .tooLong := by simp [classifySof, hmin, hmax]
    simp only [classifyInSof, hclass]

end

end Sys2Proof.Machine
end

section
/-! The statements of 40_classifier.md. -/

open Sys2Proof Sys2Proof.Machine

/-- Settles O24, context by context: the duration lies in one of the context's windows or outside them all, and each has
its own decision; context 3 is the refusal. -/
theorem classifyWritesClsRes : Obligations.ClassifyWritesClsRes := by
  intro s
  simp only [← dur_nat]
  refine ⟨fun hctx => ?_, fun hctx => ?_, fun hctx => ?_, exec_classify_reserved⟩
  · split_ifs with hglitch hshort hlong heod
    · exact (exec_classify_data hctx (decodeSymbol_of_glitch _ _ hglitch) :)
    · exact (exec_classify_data hctx (decodeSymbol_of_short _ _ (not_lt.mp hglitch) hshort) :)
    · exact (exec_classify_data hctx (decodeSymbol_of_long _ _ (not_lt.mp hglitch) (not_lt.mp hshort) hlong) :)
    · exact (exec_classify_data hctx (decodeSymbol_of_eod _ _ (not_lt.mp hglitch) (not_lt.mp hshort) hlong heod) :)
    · exact (exec_classify_data hctx
        (decodeSymbol_of_gap _ _ (not_lt.mp hglitch) (not_lt.mp hshort) hlong (not_le.mp heod)) :)
  · rw [exec_classify_sof hctx]
    split_ifs with hwindow
    · exact congrArg Host.Outcome.next (classifyInSof_of_window hwindow)
    · exact congrArg Host.Outcome.next (classifyInSof_of_outside hwindow)
  · rw [exec_classify_boundary hctx, classifyInBoundary, classifyBoundary]
    split_ifs <;> rfl

end

section
/-! PROOFS. The bit accumulator (41_symbol_decoder.md R132, R133): what a bit changes, and the byte the eighth bit stores. -/

namespace Sys2Proof.Machine

/-- A bit touches SHIFT, COUNT and BUF only. -/
theorem accumulate_frame (b : Bool) {s : State} (hbytes : s.bytes.toNat < 12) :
    accumulate b s =
      { s with
        shift := shiftIn s.shift b, bits := (accumulate b s).bits, bytes := (accumulate b s).bytes,
        buf := (accumulate b s).buf } := by
  obtain hinside | heighth := bits_lt_or_eq s
  · rw [accumulate_of_lt b hinside]
  · rw [accumulate_of_eq b heighth, bufWrite_of_lt s _ hbytes]

/-- The eighth bit stores the byte it completes at `BUF[BYTES]`, and no other byte of BUF changes (R133). -/
theorem bufRead_accumulate_of_eq (b : Bool) {s : State} (hwf : Memory.wf s.buf = true) (hbytes : s.bytes.toNat < 12)
    (heighth : s.bits.toNat = 7) (j : Nat) :
    bufRead (accumulate b s) j = if j = s.bytes.toNat then shiftIn s.shift b else bufRead s j := by
  have hbuf : (accumulate b s).buf = (bufWrite s s.bytes.toNat (shiftIn s.shift b)).buf := by
    rw [accumulate_of_eq b heighth]
  rw [bufRead_congr hbuf, bufRead_bufWrite s _ j _ hwf]
  simp only [hbytes, and_true]

end Sys2Proof.Machine
end

section
/-! The statements of 41_symbol_decoder.md. -/

open Sys2Proof Sys2Proof.Machine

/-- Settles O27: the frame, then the bit inside a byte and the eighth bit. -/
theorem accumulateShiftsInAndCompletesBytes : Obligations.AccumulateShiftsInAndCompletesBytes := by
  intro b s hwf hbytes
  simp only [← shiftIn_eq]
  refine ⟨accumulate_frame b hbytes, fun hinside => ?_, fun heighth => ⟨?_, ?_, ?_⟩⟩
  · rw [accumulate_of_lt b hinside]
    exact ⟨bits_succ_toNat hinside, rfl, rfl⟩
  · rw [accumulate_of_eq b heighth]
    rfl
  · rw [accumulate_of_eq b heighth]
    exact bytes_succ_toNat (by omega)
  · exact bufRead_accumulate_of_eq b hwf hbytes heighth

end

section
/-! PROOFS. The receiver in RX_DATA (42_receiver.md R154 to R156): which rule a sample runs, the symbol that ended as an error
or as a bit, and when that bit fills the frame. -/

namespace Sys2Proof.Machine

/-! ### The rule a sample runs -/

/-- A sample equal to LAST is no transition (42_receiver.md R154). -/
theorem tickPhase_hold {s : State} {lv : Level} (hphase : s.phase = .rxData) (hlast : lv = s.last) :
    tickPhase lv s = rxHoldTick (sampleLine s lv) :=
  (tickPhase_rxData lv s hphase).trans (if_pos hlast)

/-- A sample that differs from LAST ends a symbol (42_receiver.md R155). -/
theorem tickPhase_transition {s : State} {lv : Level} (hphase : s.phase = .rxData) (hlast : lv ≠ s.last) :
    tickPhase lv s = rxTransitionTick lv (sampleLine s lv) :=
  (tickPhase_rxData lv s hphase).trans (if_neg hlast)

/-! ### The last bit of a frame -/

/-- COUNT stands at twelve whole bytes after a bit exactly when it stood one bit short of them before. -/
theorem accumulate_fills_iff (b : Bool) {s : State} (hbytes : s.bytes.toNat < 12) :
    (accumulate b s).bits = 0#3 ∧ (accumulate b s).bytes.toNat = 12 ↔ s.bytes.toNat = 11 ∧ s.bits.toNat = 7 := by
  obtain hinside | heighth := bits_lt_or_eq s
  · have hbits : BitVec.ofNat 3 (s.bits.toNat + 1) ≠ 0#3 := by
      rw [Ne, ← BitVec.toNat_inj, bits_succ_toNat hinside]
      exact Nat.succ_ne_zero _
    simp [accumulate_of_lt b hinside, hbits, hinside.ne]
  · have hnext := bytes_succ_toNat (s := s) (by omega)
    simp [accumulate_of_eq b heighth, hnext, heighth]

/-! ### The symbol that ended -/

/-- The receiver after the symbol that just ended gave the bit `b`: LAST and SYM_TMR restart, and the last bit of the
twelfth byte ends the frame (42_receiver.md R155, R156). -/
def afterBit (lv : Level) (b : Bool) (s : State) : State :=
  let t := { accumulate b s with last := lv, symTmr := 1#16 }
  if s.bytes.toNat = 11 ∧ s.bits.toNat = 7 then finish .ok .none t else t

section

variable {s : State} (lv : Level) {r : SymbolDecision} (hr : decodeSymbol s.params s.symTmr s.last s.strict = r)

include hr

theorem rxTransitionTick_of_error {c : Cause} (herr : r.berr = true) (hcause : r.cause = c) :
    rxTransitionTick lv s = finish .busErr c s := by
  subst hr hcause
  exact if_pos herr

theorem rxTransitionTick_of_bit (hmax : s.params.maxBytes = 12) (hbytes : s.bytes.toNat < 12) (hok : r.berr = false) :
    rxTransitionTick lv s = afterBit lv r.bit s := by
  subst hr
  have hfull := accumulate_fills_iff (decodeSymbol s.params s.symTmr s.last s.strict).bit hbytes
  exact (if_neg (by simp [hok])).trans (if_congr (by simpa [hmax] using hfull) rfl rfl)

end

end Sys2Proof.Machine
end

section
/-! The statements of 42_receiver.md. -/

open Sys2Proof Sys2Proof.Machine

/-- Settles O32, window by window: the decision of the duration is an error, or a bit that is accumulated. -/
theorem transitionTick : Obligations.TransitionTick := by
  intro s lv hmax hphase hlast hbytes
  dsimp only
  rw [tickPhase_transition hphase hlast]
  have ofError {r c} (hr : decodeSymbol s.params s.symTmr s.last s.strict = r) :=
    rxTransitionTick_of_error (s := sampleLine s lv) (c := c) lv hr
  have ofBit {r} (hr : decodeSymbol s.params s.symTmr s.last s.strict = r) :=
    rxTransitionTick_of_bit (s := sampleLine s lv) lv hr hmax hbytes
  refine ⟨fun hglitch => ?_, fun hmin hlim => ?_, fun hmin hlim hlong => ?_, fun hmin ⟨hlim, hlong, heod⟩ hstrict => ?_,
    fun hmin ⟨hlim, hlong, heod⟩ hstrict => ?_, fun hmin hlim hlong heod => ?_⟩
  · exact (ofError (decodeSymbol_of_glitch _ _ hglitch) rfl rfl :)
  · exact (ofBit (decodeSymbol_of_short _ _ hmin hlim) rfl :)
  · exact (ofBit (decodeSymbol_of_long _ _ hmin hlim hlong) rfl :)
  · exact (ofError (decodeSymbol_of_gap _ _ hmin hlim hlong heod) hstrict (if_pos hstrict) :)
  · exact (ofBit (decodeSymbol_of_gap _ _ hmin hlim hlong heod) hstrict :)
  · exact (ofBit (decodeSymbol_of_eod _ _ hmin hlim hlong heod) rfl :)

/-- Settles O21, by BUSY. -/
theorem receiveStartsOrIsRefused : Obligations.ReceiveStartsOrIsRefused :=
  fun _ => ⟨execReceive_idle, execReceive_busy⟩

/-- Settles O29, case by case of the two rules, in the order of their tests. -/
theorem initialWaitTicks : Obligations.InitialWaitTicks := by
  intro s lv
  simp only [← advance_nat, ← tmo_nat, BitVec.ofNat_toNat, BitVec.setWidth_eq]
  refine ⟨fun hphase => (tickPhase_rxWaitIdle lv s hphase).trans ?_, fun hphase =>
    (tickPhase_rxWaitSof lv s hphase).trans ?_⟩
  · obtain ⟨htmo, h⟩ | ⟨htmo, hlv, h⟩ | ⟨htmo, hlv, hifs, h⟩ | ⟨htmo, hlv, hifs, h⟩ :=
      rxWaitIdleTick_cases lv (sampleLine s lv)
    · exact h.trans (if_pos htmo).symm
    · exact h.trans ((if_neg htmo.not_ge).trans (if_pos hlv)).symm
    · exact h.trans ((if_neg htmo.not_ge).trans ((if_neg (by simp [hlv])).trans (if_pos hifs))).symm
    · exact h.trans ((if_neg htmo.not_ge).trans ((if_neg (by simp [hlv])).trans (if_neg hifs.not_ge))).symm
  · obtain ⟨hlv, h⟩ | ⟨hlv, htmo, h⟩ | ⟨hlv, htmo, h⟩ := rxWaitSofTick_cases lv (sampleLine s lv)
    · exact h.trans (if_pos hlv).symm
    · exact h.trans ((if_neg (by simp [hlv])).trans (if_pos htmo)).symm
    · exact h.trans ((if_neg (by simp [hlv])).trans (if_neg htmo.not_ge)).symm

/-- Settles O30, case by case of the rule: the level, then the window's bound on its side. -/
theorem sofTick : Obligations.SofTick := by
  intro s lv hphase
  simp only [← advance_nat, BitVec.ofNat_toNat, BitVec.setWidth_eq]
  refine (tickPhase_rxSof lv s hphase).trans ?_
  obtain ⟨hlv, hmax, h⟩ | ⟨hlv, hmax, h⟩ | ⟨hlv, hmin, h⟩ | ⟨hlv, hmin, h⟩ := rxSofTick_cases lv (sampleLine s lv)
  · exact h.trans ((if_pos hlv).trans (if_pos hmax)).symm
  · exact h.trans ((if_pos hlv).trans (if_neg hmax.not_gt)).symm
  · exact h.trans ((if_neg (by simp [hlv])).trans (if_pos hmin)).symm
  · exact h.trans ((if_neg (by simp [hlv])).trans (if_neg hmin.not_gt)).symm

/-- Settles O31, by whether the run has reached the EOD window. -/
theorem holdTick : Obligations.HoldTick := by
  intro s lv hphase hlast
  simp only [← advance_nat, BitVec.ofNat_toNat, BitVec.setWidth_eq]
  refine (tickPhase_hold hphase hlast).trans ?_
  obtain ⟨heod, h⟩ | ⟨heod, h⟩ := rxHoldTick_cases (sampleLine s lv)
  · exact h.trans (if_pos heod).symm
  · exact h.trans (if_neg heod.not_ge).symm

end

section
/-! PROOFS. The transmitter (43_transmitter.md): the bit a symbol length decodes to (R181), COUNT after a bit and the symbol
started on it (R184, R186). -/

namespace Sys2Proof.Machine

/-! ### A symbol's length and its bit (R181) -/

/-- The Short symbol of either polarity carries the bit that the receiver reads off a Short. -/
theorem symbolDur_short (p : Params) (pol : Level) : symbolDur p (decide (pol = .active)) pol = p.txShort := by
  cases pol <;> rfl

/-- The Long symbol of either polarity carries the bit that the receiver reads off a Long. -/
theorem symbolDur_long (p : Params) (pol : Level) : symbolDur p (decide (pol = .passive)) pol = p.txLong := by
  cases pol <;> rfl

/-- With a given polarity each bit is the one of the Short symbol or the one of the Long symbol. -/
theorem bit_short_or_long (b : Bool) (pol : Level) : b = decide (pol = .active) ∨ b = decide (pol = .passive) := by
  cases b <;> cases pol <;> decide

/-- The windows of a round-trip-safe set hold the transmitted lengths, so a symbol decodes to the bit it was sent for. -/
theorem decodeSymbol_symbolDur {p : Params} (hlegal : p.Legal) (hsafe : p.RoundTripSafe) (b : Bool) (pol : Level)
    (strict : Bool) :
    (decodeSymbol p (BitVec.ofNat 16 (symbolDur p b pol)) pol strict).bit = b ∧
      (decodeSymbol p (BitVec.ofNat 16 (symbolDur p b pol)) pol strict).berr = false := by
  have hnat := symbolDur_toNat hlegal b pol
  obtain ⟨⟨_, _, hlimLong, _⟩, _⟩ := hlegal
  obtain ⟨⟨hshortMin, hshortLim⟩, ⟨hlongMin, hlongLim⟩, _⟩ := hsafe
  obtain rfl | rfl := bit_short_or_long b pol
  · rw [symbolDur_short] at hnat ⊢
    rw [decodeSymbol_of_short pol strict (by omega) (by omega)]
    exact ⟨rfl, rfl⟩
  · rw [symbolDur_long] at hnat ⊢
    rw [decodeSymbol_of_long pol strict (by omega) (by omega) (by omega)]
    exact ⟨rfl, rfl⟩

/-! ### COUNT after one more bit, and the symbol started on it (R184, R186) -/

/-- COUNT.BITS after one more bit has been sent. -/
def sentBits (s : State) : Nat := if s.bits.toNat = 7 then 0 else s.bits.toNat + 1

/-- COUNT.BYTES after one more bit has been sent. -/
def sentBytes (s : State) : Nat := if s.bits.toNat = 7 then s.bytes.toNat + 1 else s.bytes.toNat

theorem countSent_eq (s : State) :
    countSent s = { s with bits := BitVec.ofNat 3 (sentBits s), bytes := BitVec.ofNat 4 (sentBytes s) } := by
  obtain hinside | heighth := bits_lt_or_eq s
  · simp [countSent_of_lt hinside, sentBits, sentBytes, hinside.ne]
  · simp [countSent_of_eq heighth, sentBits, sentBytes, heighth, BitVec.ofNat_add]

theorem countSent_bits_toNat (s : State) : (countSent s).bits.toNat = sentBits s := by
  have hlt : sentBits s < 8 := by
    unfold sentBits
    split <;> omega
  simp only [countSent_eq, BitVec.toNat_ofNat]
  exact Nat.mod_eq_of_lt hlt

/-- Inside a frame COUNT.BYTES does not wrap. -/
theorem countSent_bytes_toNat {s : State} (hbytes : s.bytes.toNat < 12) : (countSent s).bytes.toNat = sentBytes s := by
  have hlt : sentBytes s < 16 := by
    unfold sentBytes
    split <;> omega
  simp only [countSent_eq, BitVec.toNat_ofNat]
  exact Nat.mod_eq_of_lt hlt

/-- The last bit of the last byte begins the EOF. -/
theorem txSymbolEnd_of_last {s : State} (hbytes : s.bytes.toNat < 12) (hlast : sentBytes s = s.len.toNat) :
    txSymbolEnd s =
      { s with
        symTmr := 0#16, bits := BitVec.ofNat 3 (sentBits s), bytes := BitVec.ofNat 4 (sentBytes s), drive := .passive
        phase := .txEof } := by
  have hcount : (countSent s).bytes.toNat = s.len.toNat := (countSent_bytes_toNat hbytes).trans hlast
  obtain ⟨_, h⟩ | ⟨hne, _⟩ := txSymbolEnd_cases s
  · rw [h, countSent_eq]
  · exact absurd hcount hne

/-- Any other bit begins the next symbol, of the other polarity and for the bit at the COUNT just formed. -/
theorem txSymbolEnd_of_more {s : State} {pol : Level} (hbytes : s.bytes.toNat < 12)
    (hmore : sentBytes s ≠ s.len.toNat) (hpol : s.txPol = pol) :
    txSymbolEnd s =
      { s with
        symTmr := 0#16, bits := BitVec.ofNat 3 (sentBits s), bytes := BitVec.ofNat 4 (sentBytes s)
        txPol := pol.not, drive := pol.not
        txN := BitVec.ofNat 16 (symbolDur s.params (bufBit s (sentBytes s) (sentBits s)) pol.not) } := by
  have hcount := countSent_bytes_toNat hbytes
  obtain ⟨hlast, _⟩ | ⟨_, h⟩ := txSymbolEnd_cases s
  · exact absurd (hcount.symm.trans hlast) hmore
  · rw [h, startSymbol, hcount, countSent_bits_toNat, countSent_eq, hpol]
    rfl

end Sys2Proof.Machine
end

section
/-! The statements of 43_transmitter.md. -/

open Sys2Proof Sys2Proof.Machine

/-- Settles O26: the table, and the window each of its lengths lies in. -/
theorem symbolLengthsDecodeToTheirBit : Obligations.SymbolLengthsDecodeToTheirBit :=
  fun _ => ⟨⟨rfl, rfl, rfl, rfl⟩, decodeSymbol_symbolDur⟩

/-- Settles O35, case by case of the rule: contention, the symbol's end (the EOF, or the next symbol of either
polarity), one more sample. -/
theorem transmitDataTick : Obligations.TransmitDataTick := by
  intro s lv hphase hbytes
  simp only [← advance_nat, BitVec.ofNat_toNat, BitVec.setWidth_eq, ← symbolDur_passive, ← symbolDur_active]
  refine (tickPhase_txData lv s hphase).trans ?_
  obtain ⟨hpol, hlv, hlt, h⟩ | ⟨hend, h⟩ | ⟨hquiet, hlt, h⟩ := txDataTick_cases lv (sampleLine s lv)
  · exact h.trans (if_pos ⟨hpol, hlt, hlv⟩).symm
  · have hover : ¬ (s.txPol = .passive ∧ (advance s.symTmr).toNat < s.txN.toNat ∧ lv = .active) :=
      fun ⟨_, hlt, _⟩ => hend.not_gt hlt
    refine h.trans (Eq.trans ?_ ((if_neg hover).trans (if_neg hend.not_gt)).symm)
    by_cases hlast : sentBytes s = s.len.toNat
    · exact Eq.trans (txSymbolEnd_of_last hbytes hlast) (if_pos hlast).symm
    · cases hpol : s.txPol with
      | passive =>
        exact Eq.trans (txSymbolEnd_of_more hbytes hlast hpol) ((if_neg hlast).trans (if_pos rfl)).symm
      | active =>
        exact Eq.trans (txSymbolEnd_of_more hbytes hlast hpol) ((if_neg hlast).trans (if_neg (by decide))).symm
  · have hcalm : ¬ (s.txPol = .passive ∧ (advance s.symTmr).toNat < s.txN.toNat ∧ lv = .active) :=
      fun ⟨hpassive, _, hactive⟩ =>
        hquiet.elim (fun hpol => nomatch hpassive.symm.trans hpol) (fun hlv => nomatch hactive.symm.trans hlv)
    exact h.trans ((if_neg hcalm).trans (if_pos hlt)).symm

/-- Settles O22, by BUSY and then by LEN. -/
theorem transmitStartsOrRaisesOrIsRefused : Obligations.TransmitStartsOrRaisesOrIsRefused := by
  intro s hmax
  have hlegal : lenLegal s = true ↔ 1 ≤ s.len.toNat ∧ s.len.toNat ≤ 12 := hmax ▸ lenLegal_iff s
  refine ⟨execTransmit_busy, fun hidle hlen => ?_, fun hidle hmin hlen => ?_⟩
  · exact execTransmit_illegal hidle (by rw [← Bool.not_eq_true, hlegal]; omega)
  · exact execTransmit_legal hidle (hlegal.mpr ⟨hmin, hlen⟩)

/-- Settles O33, case by case of the rule, in the order of its tests. -/
theorem transmitIdleWaitTick : Obligations.TransmitIdleWaitTick := by
  intro s lv hphase
  simp only [← advance_nat, BitVec.ofNat_toNat, BitVec.setWidth_eq]
  refine (tickPhase_txWaitIdle lv s hphase).trans ?_
  have notIdle {lv : Level} {n t : Nat} (h : lv = .active ∨ t < n) : ¬ (lv = .passive ∧ n ≤ t) := by
    rintro ⟨rfl, hle⟩
    exact h.elim (by decide) hle.not_gt
  obtain ⟨hlv, hifs, h⟩ | ⟨hwait, hceil, h⟩ | ⟨hwait, hceil, h⟩ := txWaitIdleTick_cases lv (sampleLine s lv)
  · exact h.trans (if_pos ⟨hlv, hifs⟩).symm
  · exact h.trans ((if_neg (notIdle hwait)).trans (if_pos hceil)).symm
  · exact h.trans ((if_neg (notIdle hwait)).trans (if_neg hceil.not_ge)).symm

/-- Settles O34, by whether the SOF and the EOF have lasted their length; the first symbol is the Passive one of R181. -/
theorem transmitSofAndEofTicks : Obligations.TransmitSofAndEofTicks := by
  intro s lv
  simp only [← advance_nat, BitVec.ofNat_toNat, BitVec.setWidth_eq, ← symbolDur_passive]
  refine ⟨fun hphase => (tickPhase_txSof lv s hphase).trans ?_, fun hphase => (tickPhase_txEof lv s hphase).trans ?_⟩
  · obtain ⟨hend, h⟩ | ⟨hlt, h⟩ := txSofTick_cases (sampleLine s lv)
    · exact h.trans (if_pos hend).symm
    · exact h.trans (if_neg hlt.not_ge).symm
  · obtain ⟨hend, h⟩ | ⟨hlt, h⟩ := txEofTick_cases (sampleLine s lv)
    · exact h.trans (if_pos hend).symm
    · exact h.trans (if_neg hlt.not_ge).symm

end

section
/-! PROOFS. The CRC unit (44_crc8.md): the three commands and the bit step (R210 to R213), and a tick phase under a change of
CRC and CRC_DATA (R217). -/

namespace Sys2Proof.Machine

/-! ### The three commands (R211 to R213) -/

theorem exec_crcInit (s : State) : exec .crcInit s = .next { s with crc := 0xFF#8 } := rfl

theorem exec_crcBit (s : State) : exec .crcBit s = .next { s with crc := crcstep s.crc (s.crcData.getLsbD 0) } := rfl

theorem exec_crcByte (s : State) : exec .crcByte s = .next { s with crc := crcbyte s.crc s.crcData } := rfl

/-! ### The bit step (R210) -/

theorem crcTap_eq (top b : Bool) :
    crcTap top b =
      if top = true then (if b = true then 0x01#8 else 0x1D#8) else (if b = true then 0x1C#8 else 0x00#8) := by
  cases top <;> cases b <;> rfl

theorem crcstep_eq (acc : Byte) (b : Bool) :
    crcstep acc b =
      BitVec.ofNat 8 (2 * acc.toNat + b.toNat) ^^^
        (if acc.getLsbD 7 = true then (if b = true then 0x01#8 else 0x1D#8)
          else (if b = true then 0x1C#8 else 0x00#8)) := by
  rw [crcstep, shiftIn_eq, crcTap_eq]

/-! ### A tick phase under a change of CRC and CRC_DATA (R217) -/

/-- The state with other contents of CRC and CRC_DATA. -/
def withCrc (c d : Byte) (s : State) : State := { s with crc := c, crcData := d }

section

variable (c d : Byte) (lv : Level) (s : State)

/-! Each guard of a tick rule reads the same with other CRC registers, so the change moves inside both branches, where it
touches no field that the branch writes. -/

theorem rxWaitIdleTick_withCrc : rxWaitIdleTick lv (withCrc c d s) = withCrc c d (rxWaitIdleTick lv s) := by
  simp only [rxWaitIdleTick, apply_ite (withCrc c d)]
  rfl

theorem rxWaitSofTick_withCrc : rxWaitSofTick lv (withCrc c d s) = withCrc c d (rxWaitSofTick lv s) := by
  simp only [rxWaitSofTick, apply_ite (withCrc c d)]
  rfl

theorem rxSofTick_withCrc : rxSofTick lv (withCrc c d s) = withCrc c d (rxSofTick lv s) := by
  simp only [rxSofTick, apply_ite (withCrc c d)]
  rfl

theorem rxHoldTick_withCrc : rxHoldTick (withCrc c d s) = withCrc c d (rxHoldTick s) := by
  simp only [rxHoldTick, apply_ite (withCrc c d)]
  rfl

theorem bufWrite_withCrc (i : Nat) (v : Byte) : bufWrite (withCrc c d s) i v = withCrc c d (bufWrite s i v) := by
  simp only [bufWrite, apply_ite (withCrc c d)]
  rfl

theorem accumulate_withCrc (b : Bool) : accumulate b (withCrc c d s) = withCrc c d (accumulate b s) := by
  simp only [accumulate, apply_ite (withCrc c d), bufWrite_withCrc]
  rfl

theorem rxFrameFull_withCrc : rxFrameFull (withCrc c d s) = withCrc c d (rxFrameFull s) := by
  simp only [rxFrameFull, apply_ite (withCrc c d)]
  rfl

theorem rxTransitionTick_withCrc : rxTransitionTick lv (withCrc c d s) = withCrc c d (rxTransitionTick lv s) := by
  simp only [rxTransitionTick, apply_ite (withCrc c d), ← rxFrameFull_withCrc, accumulate_withCrc]
  rfl

theorem rxDataTick_withCrc : rxDataTick lv (withCrc c d s) = withCrc c d (rxDataTick lv s) := by
  simp only [rxDataTick, apply_ite (withCrc c d), rxHoldTick_withCrc, rxTransitionTick_withCrc]
  rfl

theorem txWaitIdleTick_withCrc : txWaitIdleTick lv (withCrc c d s) = withCrc c d (txWaitIdleTick lv s) := by
  simp only [txWaitIdleTick, apply_ite (withCrc c d)]
  rfl

theorem txSofTick_withCrc : txSofTick (withCrc c d s) = withCrc c d (txSofTick s) := by
  simp only [txSofTick, apply_ite (withCrc c d)]
  rfl

theorem countSent_withCrc : countSent (withCrc c d s) = withCrc c d (countSent s) := by
  simp only [countSent, apply_ite (withCrc c d)]
  rfl

theorem txSymbolEnd_withCrc : txSymbolEnd (withCrc c d s) = withCrc c d (txSymbolEnd s) := by
  simp only [txSymbolEnd, countSent_withCrc, apply_ite (withCrc c d)]
  rfl

theorem txDataTick_withCrc : txDataTick lv (withCrc c d s) = withCrc c d (txDataTick lv s) := by
  simp only [txDataTick, apply_ite (withCrc c d), ← txSymbolEnd_withCrc]
  rfl

theorem txEofTick_withCrc : txEofTick (withCrc c d s) = withCrc c d (txEofTick s) := by
  simp only [txEofTick, apply_ite (withCrc c d)]
  rfl

theorem phaseTick_withCrc : phaseTick lv (withCrc c d s) = withCrc c d (phaseTick lv s) := by
  have hphase : (withCrc c d s).phase = s.phase := rfl
  unfold phaseTick
  rw [hphase]
  cases s.phase with
  | idle => rfl
  | rxWaitIdle => exact rxWaitIdleTick_withCrc c d lv s
  | rxWaitSof => exact rxWaitSofTick_withCrc c d lv s
  | rxSof => exact rxSofTick_withCrc c d lv s
  | rxData => exact rxDataTick_withCrc c d lv s
  | txWaitIdle => exact txWaitIdleTick_withCrc c d lv s
  | txSof => exact txSofTick_withCrc c d s
  | txData => exact txDataTick_withCrc c d lv s
  | txEof => exact txEofTick_withCrc c d s

/-- The tick phase neither reads nor writes CRC and CRC_DATA. -/
theorem tickPhase_withCrc : tickPhase lv (withCrc c d s) = withCrc c d (tickPhase lv s) :=
  phaseTick_withCrc c d lv (sampleLine s lv)

end

end Sys2Proof.Machine
end

section
/-! The statements of 44_crc8.md. -/

open Sys2Proof Sys2Proof.Machine

/-- Settles O41: each command's function of CRC and CRC_DATA, and the tick rules phase by phase. -/
theorem crcUnitAndEngineAreIndependent : Obligations.CrcUnitAndEngineAreIndependent := by
  refine ⟨fun i hi => ?_, fun s lv c d => tickPhase_withCrc c d lv s⟩
  simp only [List.mem_cons, List.not_mem_nil, or_false] at hi
  obtain rfl | rfl | rfl := hi
  · exact ⟨fun _ _ => 0xFF#8, exec_crcInit⟩
  · exact ⟨fun acc v => crcstep acc (v.getLsbD 0), exec_crcBit⟩
  · exact ⟨crcbyte, exec_crcByte⟩

/-- Settles O23: the step written out is `crcstep`, and CRC_BYTE folds it over the bits of CRC_DATA. -/
theorem crcCommandsUpdateCrcOnly : Obligations.CrcCommandsUpdateCrcOnly := by
  intro s
  simp only [← crcstep_eq]
  exact ⟨exec_crcInit s, exec_crcBit s, exec_crcByte s⟩

end

section
/-! PROOFS. Control (45_control.md): the packed registers as numbers (R232), and a step that writes to the host port (R230,
R237). -/

namespace Sys2Proof.Machine

/-! ### The packed registers as numbers (R232) -/

/-- The field in the low bits counts ones, the one above it counts from its first bit's weight. -/
theorem append_toNat {m n : Nat} (hi : BitVec m) (lo : BitVec n) : (hi ++ lo).toNat = lo.toNat + 2 ^ n * hi.toNat := by
  rw [BitVec.toNat_append, Nat.shiftLeft_eq, Nat.mul_comm, ← Nat.two_pow_add_eq_or_of_lt lo.isLt, Nat.add_comm]

theorem Level.bit_toNat (l : Level) : l.bit.toNat = if l = .active then 1 else 0 := by cases l <;> rfl

section

variable (s : State)

theorem ctrlByte_toNat : (ctrlByte s).toNat = s.strict.toNat + 2 * s.ie.toNat := by
  simp only [ctrlByte, append_toNat, BitVec.toNat_ofBool, BitVec.toNat_zero]
  omega

theorem statusByte_toNat :
    (statusByte s).toNat =
      s.busy.toNat + 2 * s.done.toNat + 4 * s.result.code.toNat + 32 * s.op.code.toNat + 64 * s.rej.toNat +
        128 * (if s.line = .active then 1 else 0) := by
  simp only [statusByte, append_toNat, BitVec.toNat_ofBool, Level.bit_toNat]
  omega

theorem countByte_toNat : (countByte s).toNat = s.bytes.toNat + 16 * s.bits.toNat := by
  simp only [countByte, append_toNat, BitVec.toNat_zero]
  omega

theorem clsCfgByte_toNat : (clsCfgByte s).toNat = s.clsCtx.toNat + 4 * (if s.clsPol = .active then 1 else 0) := by
  simp only [clsCfgByte, append_toNat, Level.bit_toNat, BitVec.toNat_zero]
  omega

theorem clsResByte_toNat :
    (clsResByte s).toNat = s.clsCat.code.toNat + 8 * s.clsBit.toNat + 16 * s.clsBerr.toNat := by
  simp only [clsResByte, append_toNat, BitVec.toNat_ofBool, BitVec.toNat_zero]
  omega

theorem stateByte_toNat :
    (stateByte s).toNat = s.phase.code.toNat + 16 * (if s.drive = .active then 1 else 0) := by
  simp only [stateByte, append_toNat, Level.bit_toNat, BitVec.toNat_zero]
  omega

theorem errCauseByte_toNat : (errCauseByte s).toNat = s.cause.code.toNat := by
  simp only [errCauseByte, append_toNat, BitVec.toNat_zero]
  omega

end

/-! ### A host write in a step -/

/-- A step whose inputs write is the host write on what the tick phase left (R230). -/
theorem step_of_write {s s0 : State} {inp : CycleInput} (hlegal : s.params.Legal) (hinput : takeInput s = (inp, s0))
    (hrst : inp.rst = false) (hwe : inp.we = true) :
    step s = hostWrite s0 inp.addr inp.wdata (if inp.tick then tickPhase (sampled inp.ext s) s0 else s0) := by
  rw [step_of_legal hlegal, hinput, busLevel_sampled]
  simp only [cycle, hrst, hwe, if_true, Bool.false_eq_true, if_false, afterTick]

/-- A reserved opcode is refused (R237). -/
theorem command_reserved {op : Byte} (s : State) (hop : 8 ≤ op.toNat) : command op s = .next (reject s) := by
  unfold command
  rw [decode_reserved op hop]

/-- STATUS takes the write-1-to-clear rule (R233). -/
theorem hostWrite_status (s0 s : State) (v : Byte) : hostWrite s0 0x02#5 v s = .next (statusW1C s0 v s) := rfl

/-- CMD takes a command (R233). -/
theorem hostWrite_cmd (s0 s : State) (v : Byte) : hostWrite s0 0x01#5 v s = command v s := rfl

end Sys2Proof.Machine
end

section
/-! The statements of 45_control.md. -/

open Sys2Proof Sys2Proof.Machine

/-- Settles O9: each packed register is the sum of its fields at their weights, and the other addresses hold one byte. -/
theorem hostReadsPackTheFields : Obligations.HostReadsPackTheFields := by
  intro s
  refine ⟨ctrlByte_toNat s, rfl, statusByte_toNat s, countByte_toNat s, rfl, rfl, rfl, rfl, rfl, ?_, rfl, rfl,
    clsCfgByte_toNat s, clsResByte_toNat s, stateByte_toNat s, errCauseByte_toNat s, fun i hi => ?_, fun i hi => ?_⟩
  · exact BitVec.toNat_not
  · exact congrArg BitVec.toNat (hostRead_buf s ⟨i, hi⟩)
  · have haddr : 0x1C ≤ (BitVec.ofNat 5 (0x1C + i)).toNat := by
      rw [BitVec.toNat_ofNat]
      omega
    exact congrArg BitVec.toNat (hostRead_reserved s haddr)

/-- Settles O13: STATUS takes the write-1-to-clear rule, whose two tests are on `S0`. -/
theorem statusWriteOneToClear : Obligations.StatusWriteOneToClear := by
  intro s0 s v
  simp only [hostWrite_status, statusW1C, Bool.and_eq_true]

/-- Settles O15: the step is the write to CMD after the tick phase, and the decoder rejects the byte. -/
theorem reservedOpcodeSetsRejOnly : Obligations.ReservedOpcodeSetsRejOnly := by
  intro s inp s0 hlegal hinput hrst hwe haddr hop
  rw [step_of_write hlegal hinput hrst hwe, haddr, hostWrite_cmd, command_reserved _ hop, reject]

/-- Settles O19: NOP is the identity, and ABORT goes by BUSY. -/
theorem nopAndAbortAreTheControlCommands : Obligations.NopAndAbortAreTheControlCommands :=
  fun _ => ⟨rfl, execAbort_busy, execAbort_idle⟩

end

section
/-! PROOFS. Exceptions (60_exceptions.md): which writes are refused (R263), and how REJ follows them through a cycle. -/

namespace Sys2Proof

/-! ### Codes and addresses -/

theorem encode_of_decode {op : Byte} {i : Instr} (h : decode op = .ok i) : encode i = op := by
  revert op
  cases i <;> decide

/-- The decoder rejects the reserved opcodes only (30_encoding.md R84). -/
theorem reserved_of_decode : ∀ op : Byte, (decode op).isOk = false → 8 ≤ op.toNat := by decide

/-- CTX = 3 is the one code without a context (30_encoding.md R85). -/
theorem Context.ofCode_eq_none : ∀ c : BitVec 2, Context.ofCode c = none → c = 3#2 := by decide

end Sys2Proof

namespace Sys2Proof.Machine

theorem guardedAddr_buf : ∀ i : Fin 12, guardedAddr (Reg.addr (.buf i)) = true := by decide

/-! ### The refusals (R263) -/

/-- The bytes written to CMD that are refused in `s`: a reserved opcode, RECEIVE and TRANSMIT while BUSY, CLASSIFY with
CTX = 3. -/
def RefusedCommand (op : Byte) (s : State) : Prop :=
  8 ≤ op.toNat ∨ ((op = 0x01#8 ∨ op = 0x02#8) ∧ s.busy = true) ∨ (op = 0x07#8 ∧ s.clsCtx = 3#2)

/-- The host writes that are refused in `s`: a refused command, and a guarded register while BUSY. -/
def RefusedWrite (a : Addr) (v : Byte) (s : State) : Prop :=
  (a = 0x01#5 ∧ RefusedCommand v s) ∨ (guardedAddr a = true ∧ s.busy = true)

/-! ### Commands -/

theorem command_of_refused {op : Byte} {s : State} (h : RefusedCommand op s) : command op s = .next (reject s) := by
  obtain hop | ⟨rfl | rfl, hbusy⟩ | ⟨rfl, hctx⟩ := h
  · exact command_reserved s hop
  · exact execReceive_busy hbusy
  · exact execTransmit_busy hbusy
  · exact exec_classify_reserved hctx

/-- A command that is not refused keeps REJ. -/
theorem exec_rej {i : Instr} {s t : State} (h : exec i s = .next t) :
    RefusedCommand (encode i) s ∨ t.rej = s.rej := by
  cases i with
  | receive =>
    cases hbusy : s.busy with
    | true => exact .inl (.inr (.inl ⟨.inl rfl, hbusy⟩))
    | false => cases (execReceive_idle hbusy).symm.trans h; exact .inr rfl
  | transmit =>
    cases hbusy : s.busy with
    | true => exact .inl (.inr (.inl ⟨.inr rfl, hbusy⟩))
    | false =>
      cases hlen : lenLegal s with
      | true => cases (execTransmit_legal hbusy hlen).symm.trans h; exact .inr rfl
      | false => cases (execTransmit_illegal hbusy hlen).symm.trans h; exact .inr rfl
  | abort =>
    cases hbusy : s.busy with
    | true => cases (execAbort_busy hbusy).symm.trans h; exact .inr rfl
    | false => cases (execAbort_idle hbusy).symm.trans h; exact .inr rfl
  | classify =>
    obtain ⟨hctx, _⟩ | ⟨_, _, _, hset⟩ := execClassify_cases s
    · exact .inl (.inr (.inr ⟨rfl, Context.ofCode_eq_none _ hctx⟩))
    · cases hset.symm.trans h; exact .inr rfl
  | nop | crcInit | crcBit | crcByte => cases h; exact .inr rfl

theorem command_rej {op : Byte} {s t : State} (h : command op s = .next t) : RefusedCommand op s ∨ t.rej = s.rej := by
  unfold command at h
  cases hdecode : decode op with
  | ok i =>
    rw [hdecode] at h
    exact encode_of_decode hdecode ▸ exec_rej h
  | error e => exact .inl (.inl (reserved_of_decode op (by rw [hdecode]; rfl)))

/-! ### Host writes -/

/-- A write to a guarded address goes through the busy guard, which guards no write of REJ (45_control.md R239). -/
theorem hostWrite_busyGuard (s0 s : State) {a : Addr} (v : Byte) (ha : guardedAddr a = true) :
    ∃ write, hostWrite s0 a v s = .next (busyGuard write s) ∧ (write s).rej = s.rej := by
  obtain rfl | rfl | rfl | rfl | ⟨i, rfl⟩ := guardedAddr_cases a ha
  · exact ⟨writeCtrl v, rfl, rfl⟩
  · exact ⟨fun t => { t with len := v }, rfl, rfl⟩
  · exact ⟨fun t => { t with tmoL := v }, rfl, rfl⟩
  · exact ⟨fun t => { t with tmoH := v }, rfl, rfl⟩
  · exact ⟨_, hostWrite_buf s0 s i v, bufWrite_rej s i v⟩

theorem hostWrite_of_refused (s0 : State) {s : State} {a : Addr} {v : Byte} (h : RefusedWrite a v s) :
    hostWrite s0 a v s = .next (reject s) := by
  obtain ⟨rfl, hcommand⟩ | ⟨ha, hbusy⟩ := h
  · exact command_of_refused hcommand
  · obtain ⟨write, hwrite, _⟩ := hostWrite_busyGuard s0 s v ha
    rw [hwrite, busyGuard_of_busy write hbusy]

/-- A write outside CMD, STATUS and the guarded registers keeps REJ. -/
theorem hostWrite_rej_of_plain {s0 s t : State} {a : Addr} {v : Byte} (hcmd : a ≠ 0x01#5) (hstatus : a ≠ 0x02#5)
    (hguard : guardedAddr a = false) (h : hostWrite s0 a v s = .next t) : t.rej = s.rej := by
  rw [← Reg.addr_ofAddr a] at hcmd hstatus hguard
  unfold hostWrite at h
  generalize Reg.ofAddr a = r at hcmd hstatus hguard h
  cases r with
  | cmd => exact absurd rfl hcmd
  | status => exact absurd rfl hstatus
  | ctrl | len | tmoL | tmoH => cases hguard
  | buf i => exact absurd hguard (by simp [guardedAddr_buf])
  | _ => cases h; rfl

/-- A write to STATUS clears REJ only where its bit 6 is 1, and never raises it (45_control.md R238). -/
theorem statusW1C_rej_cases (s0 s : State) (v : Byte) :
    (v.getLsbD 6 = true ∧ (statusW1C s0 v s).rej = false) ∨ (statusW1C s0 v s).rej = s.rej := by
  rw [statusW1C_rej]
  split
  · next h => exact .inl ⟨(Bool.and_eq_true_iff.mp h).1, rfl⟩
  · exact .inr rfl

/-- A host write is refused, clears REJ by bit 6 of STATUS, or keeps REJ. -/
theorem hostWrite_rej {s0 s t : State} {a : Addr} {v : Byte} (h : hostWrite s0 a v s = .next t) :
    RefusedWrite a v s ∨ (a = 0x02#5 ∧ v.getLsbD 6 = true ∧ t.rej = false) ∨ t.rej = s.rej := by
  by_cases hcmd : a = 0x01#5
  · subst hcmd
    exact (command_rej h).imp (fun hrefused => .inl ⟨rfl, hrefused⟩) .inr
  by_cases hstatus : a = 0x02#5
  · subst hstatus
    cases h
    exact .inr ((statusW1C_rej_cases s0 s v).imp_left fun hcleared => ⟨rfl, hcleared⟩)
  cases hguard : guardedAddr a with
  | false => exact .inr (.inr (hostWrite_rej_of_plain hcmd hstatus hguard h))
  | true =>
    obtain ⟨write, hwrite, hkeep⟩ := hostWrite_busyGuard s0 s v hguard
    cases hwrite.symm.trans h
    obtain ⟨hbusy, _⟩ | ⟨_, hidle⟩ := busyGuard_cases write s
    · exact .inl (.inr ⟨hguard, hbusy⟩)
    · exact .inr (.inr (hidle ▸ hkeep))

/-! ### A step -/

/-- What a step does to REJ: reset clears it, a refusal may raise it, bit 6 of STATUS clears it, and all else keeps it. -/
theorem step_rej {s s0 t : State} {inp : CycleInput} (hinput : takeInput s = (inp, s0)) (hstep : step s = .next t) :
    (inp.rst = true ∧ t.rej = false) ∨
      (inp.rst = false ∧ inp.we = true ∧
        RefusedWrite inp.addr inp.wdata (if inp.tick then tickPhase (sampled inp.ext s) s0 else s0)) ∨
      (inp.we = true ∧ inp.addr = 0x02#5 ∧ inp.wdata.getLsbD 6 = true ∧ t.rej = false) ∨ t.rej = s.rej := by
  have hs0 : s0.rej = s.rej := by simpa [hinput] using takeInput_rej s
  have hkeep : (afterTick inp (sampled inp.ext s) s0).rej = s.rej := by
    obtain ⟨_, h⟩ | ⟨_, h⟩ := afterTick_cases inp (sampled inp.ext s) s0 <;> rw [h]
    · exact (tickPhase_rej _ s0).trans hs0
    · exact hs0
  rw [step_of_legal (legal_of_step hstep), hinput, busLevel_sampled] at hstep
  obtain ⟨u, hu, hcase⟩ := cycle_cases inp (sampled inp.ext s) s0
  cases hu.symm.trans hstep
  obtain ⟨hrst, rfl⟩ | ⟨_, _, rfl⟩ | ⟨hrst, hwe, hwrite⟩ := hcase
  · exact .inl ⟨hrst, rfl⟩
  · exact .inr (.inr (.inr hkeep))
  · obtain hrefused | hcleared | hkept := hostWrite_rej hwrite
    · exact .inr (.inl ⟨hrst, hwe, hrefused⟩)
    · exact .inr (.inr (.inl ⟨hwe, hcleared⟩))
    · exact .inr (.inr (.inr (hkept.trans hkeep)))

end Sys2Proof.Machine
end

section
/-! The statement of 60_exceptions.md. -/

open Sys2Proof Sys2Proof.Machine

/-- Settles O16: a refused write is `reject` after the tick phase, and `step_rej` leaves no other way up and two ways
down. -/
theorem rejIsSetOnlyByRefusalsAndSticky : Obligations.RejIsSetOnlyByRefusalsAndSticky := by
  intro s inp s0 t hinput hstep s1 refused
  have hreject : refused → t = reject s1 := by
    rintro ⟨hrst, hwe, hrefused⟩
    rw [step_of_write (legal_of_step hstep) hinput hrst hwe, hostWrite_of_refused s0 hrefused] at hstep
    exact (Host.Outcome.next.inj hstep).symm
  refine ⟨hreject, fun hlow hhigh => ?_, fun hhigh hlow => ?_⟩
  · obtain ⟨_, hcleared⟩ | hrefused | ⟨_, _, _, hcleared⟩ | hkept := step_rej hinput hstep
    · exact absurd hhigh (by simp [hcleared])
    · exact hrefused
    · exact absurd hhigh (by simp [hcleared])
    · exact absurd hhigh (by simp [hkept, hlow])
  · obtain ⟨hrst, _⟩ | hrefused | ⟨hwe, haddr, hbit, _⟩ | hkept := step_rej hinput hstep
    · exact .inl hrst
    · exact absurd hlow (by simp [hreject hrefused])
    · exact .inr ⟨hwe, haddr, hbit⟩
    · exact absurd hlow (by simp [hkept, hhigh])

end

section
/-! PROOFS. A reception tick by tick (42_receiver.md R151 to R156): the ranges of its timers and counts, the outcomes it can
end with, and the ticks it can still take. -/

namespace Sys2Proof.Machine

/-- The number of bits COUNT stands for. -/
def bitCount (s : State) : Nat := 8 * s.bytes.toNat + s.bits.toNat

/-- The ticks a data symbol can last on the line: a longer one ends the frame (42_receiver.md R154). -/
def rxSymbolMax (p : Params) : Nat := max 1 (p.rxEodMin - 1)

/-- The timers and counts of a reception in flight. -/
inductive RxInRange (s : State) : Prop
  | wait (phase : s.phase = .rxWaitIdle ∨ s.phase = .rxWaitSof) (wait : s.waitTmr.toNat < max (tmo s).toNat 1)
      (bytes : s.bytes = 0#4) (bits : s.bits = 0#3)
  | sof (phase : s.phase = .rxSof) (sym : 1 ≤ s.symTmr.toNat ∧ s.symTmr.toNat ≤ s.params.rxSofMax)
      (bytes : s.bytes = 0#4) (bits : s.bits = 0#3)
  | data (phase : s.phase = .rxData) (sym : 1 ≤ s.symTmr.toNat ∧ s.symTmr.toNat ≤ rxSymbolMax s.params)
      (room : s.bytes.toNat < 12)

/-- The outcomes of R157: OK, NODATA, and BUSERR with one of its four causes. -/
def RxOutcome (r : ResultCode) (c : Cause) : Prop :=
  (r = .ok ∧ c = .none) ∨ (r = .noData ∧ c = .none) ∨
    (r = .busErr ∧ (c = .sofShort ∨ c = .sofLong ∨ c = .glitch ∨ c = .ambiguous))

/-- What one tick can make of a reception `s`, in the fields its ranges speak of. -/
inductive RxMove (s t : State) : Prop
  | ends (r : ResultCode) (c : Cause) (u : State) (eq : t = finish r c u) (outcome : RxOutcome r c)
      (count : u.bytes.toNat ≤ 12)
  | waits (before : s.phase = .rxWaitIdle ∨ s.phase = .rxWaitSof) (phase : t.phase = .rxWaitIdle ∨ t.phase = .rxWaitSof)
      (drive : t.drive = s.drive) (wait : t.waitTmr.toNat = s.waitTmr.toNat + 1) (lt : t.waitTmr.toNat < (tmo s).toNat)
      (bytes : t.bytes = s.bytes) (bits : t.bits = s.bits)
  | beginsSof (before : s.phase = .rxWaitSof) (phase : t.phase = .rxSof) (drive : t.drive = s.drive)
      (sym : t.symTmr.toNat = 1) (bytes : t.bytes = s.bytes) (bits : t.bits = s.bits)
  | sofGoesOn (before : s.phase = .rxSof) (phase : t.phase = .rxSof) (drive : t.drive = s.drive)
      (sym : t.symTmr.toNat = s.symTmr.toNat + 1) (le : t.symTmr.toNat ≤ s.params.rxSofMax)
      (bytes : t.bytes = s.bytes) (bits : t.bits = s.bits)
  | beginsData (before : s.phase = .rxSof) (phase : t.phase = .rxData) (drive : t.drive = s.drive)
      (sym : t.symTmr.toNat = 1) (bytes : t.bytes = s.bytes) (bits : t.bits = s.bits)
  | symbolGoesOn (before : s.phase = .rxData) (phase : t.phase = .rxData) (drive : t.drive = s.drive)
      (sym : t.symTmr.toNat = s.symTmr.toNat + 1) (lt : t.symTmr.toNat < s.params.rxEodMin)
      (bytes : t.bytes = s.bytes) (bits : t.bits = s.bits)
  | takesBit (before : s.phase = .rxData) (phase : t.phase = .rxData) (drive : t.drive = s.drive)
      (sym : t.symTmr.toNat = 1) (count : bitCount t = bitCount s + 1) (room : t.bytes.toNat < 12)

/-! ### One tick, phase by phase -/

section

variable {s : State}

/-- One more bit is counted; COUNT does not wrap while there is room. -/
theorem bitCount_accumulate (b : Bool) (hroom : s.bytes.toNat < 12) : bitCount (accumulate b s) = bitCount s + 1 := by
  unfold bitCount
  obtain hinside | heighth := bits_lt_or_eq s
  · rw [accumulate_of_lt b hinside, bits_succ_toNat hinside]
    rfl
  · have hnext := bytes_succ_toNat (s := s) (by omega)
    rw [accumulate_of_eq b heighth]
    simp only [hnext, heighth, BitVec.toNat_zero]
    omega

/-- A symbol in error is a glitch, or lies in a gap while STRICT is set (41_symbol_decoder.md R131). -/
theorem decodeSymbol_cause {p : Params} {d : Ticks} {pol : Level} {strict : Bool}
    (h : (decodeSymbol p d pol strict).berr = true) :
    (decodeSymbol p d pol strict).cause = .glitch ∨ (decodeSymbol p d pol strict).cause = .ambiguous := by
  revert h
  unfold decodeSymbol
  cases classifyData p d <;> cases strict <;> simp

variable (lv : Level)

theorem rxMove_waitIdle (hphase : s.phase = .rxWaitIdle) (hbytes : s.bytes = 0#4) : RxMove s (tickPhase lv s) := by
  have hadv := advance_toNat s.waitTmr
  have htmo := (tmo s).isLt
  rw [tickPhase_rxWaitIdle lv s hphase]
  obtain ⟨_, h⟩ | ⟨hlt, _, h⟩ | ⟨hlt, _, _, h⟩ | ⟨hlt, _, _, h⟩ := rxWaitIdleTick_cases lv (sampleLine s lv)
  · exact .ends _ _ _ h (.inr (.inl ⟨rfl, rfl⟩)) (by simp [hbytes])
  all_goals
    have hwait : (advance s.waitTmr).toNat = s.waitTmr.toNat + 1 := by
      change (advance s.waitTmr).toNat < (tmo s).toNat at hlt
      omega
    rw [h]
  · exact .waits (.inl hphase) (.inl hphase) rfl hwait hlt rfl rfl
  · exact .waits (.inl hphase) (.inr rfl) rfl hwait hlt rfl rfl
  · exact .waits (.inl hphase) (.inl hphase) rfl hwait hlt rfl rfl

theorem rxMove_waitSof (hphase : s.phase = .rxWaitSof) (hbytes : s.bytes = 0#4) : RxMove s (tickPhase lv s) := by
  have hadv := advance_toNat s.waitTmr
  have htmo := (tmo s).isLt
  rw [tickPhase_rxWaitSof lv s hphase]
  obtain ⟨_, h⟩ | ⟨_, _, h⟩ | ⟨_, hlt, h⟩ := rxWaitSofTick_cases lv (sampleLine s lv)
  · rw [h]
    exact .beginsSof hphase rfl rfl rfl rfl rfl
  · exact .ends _ _ _ h (.inr (.inl ⟨rfl, rfl⟩)) (by simp [hbytes])
  · have hwait : (advance s.waitTmr).toNat = s.waitTmr.toNat + 1 := by
      change (advance s.waitTmr).toNat < (tmo s).toNat at hlt
      omega
    rw [h]
    exact .waits (.inr hphase) (.inr hphase) rfl hwait hlt rfl rfl

theorem rxMove_sof (hmax : s.params.rxSofMax < 0xFFFF) (hphase : s.phase = .rxSof) (hbytes : s.bytes = 0#4) :
    RxMove s (tickPhase lv s) := by
  have hadv := advance_toNat s.symTmr
  have hzero : (sampleLine s lv).bytes.toNat ≤ 12 := by simp [hbytes]
  rw [tickPhase_rxSof lv s hphase]
  obtain ⟨_, _, h⟩ | ⟨_, hle, h⟩ | ⟨_, _, h⟩ | ⟨_, _, h⟩ := rxSofTick_cases lv (sampleLine s lv)
  · exact .ends _ _ _ h (.inr (.inr ⟨rfl, .inr (.inl rfl)⟩)) hzero
  · have hsym : (advance s.symTmr).toNat = s.symTmr.toNat + 1 := by
      change (advance s.symTmr).toNat ≤ s.params.rxSofMax at hle
      omega
    rw [h]
    exact .sofGoesOn hphase hphase rfl hsym hle rfl rfl
  · exact .ends _ _ _ h (.inr (.inr ⟨rfl, .inl rfl⟩)) hzero
  · rw [h]
    exact .beginsData hphase rfl rfl rfl rfl rfl

/-- A transition ends the reception in error, fills the frame, or takes a bit and leaves room (R155, R156). -/
theorem rxMove_transition (hmax : s.params.maxBytes = 12) (hphase : s.phase = .rxData) (hroom : s.bytes.toNat < 12)
    (hlast : lv ≠ s.last) : RxMove s (tickPhase lv s) := by
  rw [tickPhase_transition hphase hlast]
  obtain ⟨herr, h⟩ | ⟨hok, -⟩ := rxTransitionTick_cases lv (sampleLine s lv)
  · exact .ends _ _ _ h (.inr (.inr ⟨rfl, .inr (.inr (decodeSymbol_cause herr))⟩)) hroom.le
  · rw [rxTransitionTick_of_bit (s := sampleLine s lv) lv rfl hmax hroom hok]
    generalize (decodeSymbol _ _ _ _).bit = b
    have hfull := accumulate_fills_iff b (s := sampleLine s lv) hroom
    have hcount := bitCount_accumulate b (s := sampleLine s lv) hroom
    unfold afterBit
    split
    · next hend => exact .ends _ _ _ rfl (.inl ⟨rfl, rfl⟩) (hfull.mpr hend).2.le
    · next hmore =>
      have hstill : (accumulate b (sampleLine s lv)).bytes.toNat < 12 := by
        have hbits := s.bits.isLt
        simp only [bitCount, sampleLine_bytes, sampleLine_bits] at hcount hmore
        omega
      exact .takesBit hphase (by simp [hphase]) (by simp) rfl hcount hstill

theorem rxMove_data (hmax : s.params.maxBytes = 12) (heod : s.params.rxEodMin ≤ 0xFFFF) (hphase : s.phase = .rxData)
    (hroom : s.bytes.toNat < 12) : RxMove s (tickPhase lv s) := by
  by_cases hlast : lv = s.last
  · have hadv := advance_toNat s.symTmr
    rw [tickPhase_hold hphase hlast]
    obtain ⟨_, h⟩ | ⟨hlt, h⟩ := rxHoldTick_cases (sampleLine s lv)
    · exact .ends _ _ _ h (.inl ⟨rfl, rfl⟩) hroom.le
    · have hsym : (advance s.symTmr).toNat = s.symTmr.toNat + 1 := by
        change (advance s.symTmr).toNat < s.params.rxEodMin at hlt
        omega
      rw [h]
      exact .symbolGoesOn hphase hphase rfl hsym hlt rfl rfl
  · exact rxMove_transition lv hmax hphase hroom hlast

theorem RxInRange.move (hlegal : s.params.Legal) (h : RxInRange s) : RxMove s (tickPhase lv s) := by
  obtain ⟨hwindows, ⟨_, _, hsofMax⟩, _, hmax, _⟩ := hlegal
  cases h with
  | wait phase wait bytes bits =>
    exact phase.elim (fun h => rxMove_waitIdle lv h bytes) (fun h => rxMove_waitSof lv h bytes)
  | sof phase sym bytes bits => exact rxMove_sof lv hsofMax phase bytes
  | data phase sym room => exact rxMove_data lv hmax (by omega) phase room

end

/-! ### The ranges are kept, and a tick is used up -/

/-- The ticks a reception can still take: the rest of its wait, of the SOF, and of 96 data symbols (R158). -/
def rxBudget (s : State) : Nat :=
  match s.phase with
  | .rxWaitIdle | .rxWaitSof =>
    (max (tmo s).toNat 1 - s.waitTmr.toNat) + s.params.rxSofMax + 96 * rxSymbolMax s.params
  | .rxSof => (s.params.rxSofMax + 1 - s.symTmr.toNat) + 96 * rxSymbolMax s.params
  | .rxData => (95 - bitCount s) * rxSymbolMax s.params + (rxSymbolMax s.params + 1 - s.symTmr.toNat)
  | _ => 0

section

variable {s t : State}

theorem rxBudget_wait (h : s.phase = .rxWaitIdle ∨ s.phase = .rxWaitSof) :
    rxBudget s = (max (tmo s).toNat 1 - s.waitTmr.toNat) + s.params.rxSofMax + 96 * rxSymbolMax s.params := by
  obtain h | h := h <;> simp only [rxBudget, h]

theorem rxBudget_sof (h : s.phase = .rxSof) :
    rxBudget s = (s.params.rxSofMax + 1 - s.symTmr.toNat) + 96 * rxSymbolMax s.params := by
  simp only [rxBudget, h]

theorem rxBudget_data (h : s.phase = .rxData) :
    rxBudget s = (95 - bitCount s) * rxSymbolMax s.params + (rxSymbolMax s.params + 1 - s.symTmr.toNat) := by
  simp only [rxBudget, h]

theorem RxInRange.waiting (h : RxInRange s) (hphase : s.phase = .rxWaitIdle ∨ s.phase = .rxWaitSof) :
    s.waitTmr.toNat < max (tmo s).toNat 1 ∧ s.bytes = 0#4 ∧ s.bits = 0#3 := by
  cases h with
  | wait _ wait bytes bits => exact ⟨wait, bytes, bits⟩
  | sof phase | data phase => simp [phase] at hphase

theorem RxInRange.inSof (h : RxInRange s) (hphase : s.phase = .rxSof) :
    (1 ≤ s.symTmr.toNat ∧ s.symTmr.toNat ≤ s.params.rxSofMax) ∧ s.bytes = 0#4 ∧ s.bits = 0#3 := by
  cases h with
  | sof _ sym bytes bits => exact ⟨sym, bytes, bits⟩
  | wait phase | data phase => simp [hphase] at phase

theorem RxInRange.inData (h : RxInRange s) (hphase : s.phase = .rxData) :
    (1 ≤ s.symTmr.toNat ∧ s.symTmr.toNat ≤ rxSymbolMax s.params) ∧ s.bytes.toNat < 12 := by
  cases h with
  | data _ sym room => exact ⟨sym, room⟩
  | wait phase | sof phase => simp [hphase] at phase

/-- A reception that goes on keeps its ranges and its drive, and has fewer ticks left. -/
theorem RxInRange.of_move (hlegal : s.params.Legal) (hparams : t.params = s.params) (htmo : tmo t = tmo s)
    (h : RxInRange s) (hmove : RxMove s t) :
    (∃ r c u, t = finish r c u ∧ RxOutcome r c ∧ u.bytes.toNat ≤ 12) ∨
      (RxInRange t ∧ t.drive = s.drive ∧ rxBudget t < rxBudget s) := by
  obtain ⟨hwindows, ⟨hsofMin, hsofOrder, _⟩, _⟩ := hlegal
  have hsymbol : 1 ≤ rxSymbolMax s.params ∧ s.params.rxEodMin ≤ rxSymbolMax s.params + 1 := by
    unfold rxSymbolMax; omega
  cases hmove with
  | ends r c u eq outcome count => exact .inl ⟨r, c, u, eq, outcome, count⟩
  | waits before phase drive wait lt bytes bits =>
    obtain ⟨-, hbytes, hbits⟩ := h.waiting before
    refine .inr ⟨.wait phase (by rw [htmo]; omega) (bytes.trans hbytes) (bits.trans hbits), drive, ?_⟩
    rw [rxBudget_wait before, rxBudget_wait phase, htmo, hparams]
    omega
  | beginsSof before phase drive sym bytes bits =>
    obtain ⟨hwait, hbytes, hbits⟩ := h.waiting (.inr before)
    refine .inr ⟨.sof phase (by rw [hparams]; omega) (bytes.trans hbytes) (bits.trans hbits), drive, ?_⟩
    rw [rxBudget_wait (.inr before), rxBudget_sof phase, hparams]
    omega
  | sofGoesOn before phase drive sym le bytes bits =>
    obtain ⟨hsym, hbytes, hbits⟩ := h.inSof before
    refine .inr ⟨.sof phase (by rw [hparams]; omega) (bytes.trans hbytes) (bits.trans hbits), drive, ?_⟩
    rw [rxBudget_sof before, rxBudget_sof phase, hparams]
    omega
  | beginsData before phase drive sym bytes bits =>
    obtain ⟨hsym, hbytes, hbits⟩ := h.inSof before
    have hcount : bitCount t = 0 := by simp [bitCount, bytes, hbytes, bits, hbits]
    refine .inr ⟨.data phase (by rw [hparams]; omega) (by simp [bytes, hbytes]), drive, ?_⟩
    rw [rxBudget_sof before, rxBudget_data phase, hparams, hcount]
    omega
  | symbolGoesOn before phase drive sym lt bytes bits =>
    obtain ⟨hsym, hroom⟩ := h.inData before
    have hcount : bitCount t = bitCount s := by simp [bitCount, bytes, bits]
    refine .inr ⟨.data phase (by rw [hparams]; omega) (by rw [bytes]; exact hroom), drive, ?_⟩
    rw [rxBudget_data before, rxBudget_data phase, hparams, hcount]
    omega
  | takesBit before phase drive sym count room =>
    obtain ⟨hsym, hroom⟩ := h.inData before
    have hleft : 95 - bitCount s = 95 - bitCount t + 1 := by
      have hlt : bitCount t < 96 := by have := t.bits.isLt; unfold bitCount; omega
      omega
    refine .inr ⟨.data phase (by rw [hparams]; omega) room, drive, ?_⟩
    rw [rxBudget_data before, rxBudget_data phase, hparams, hleft, Nat.succ_mul]
    omega

/-- One tick of a reception: it ends with a listed outcome, or goes on with fewer ticks left. -/
theorem RxInRange.tick (hlegal : s.params.Legal) (h : RxInRange s) (lv : Level) :
    (∃ r c u, tickPhase lv s = finish r c u ∧ RxOutcome r c ∧ u.bytes.toNat ≤ 12) ∨
      (RxInRange (tickPhase lv s) ∧ (tickPhase lv s).drive = s.drive ∧ rxBudget (tickPhase lv s) < rxBudget s) :=
  h.of_move hlegal (tickPhase_params lv s) (by simp [tmo]) (h.move lv hlegal)

end

end Sys2Proof.Machine
end

section
/-! PROOFS. A transmission tick by tick (43_transmitter.md R182 to R187): the symbols of the frame, the ranges of its timers
and counts, what a tick makes of them, and the time on the bus. -/

namespace Sys2Proof.Machine

/-! ### The symbols of a frame (R181, R188) -/

/-- The polarity of data symbol number `k`. -/
def symPol (k : Nat) : Level := if k % 2 = 0 then .passive else .active

/-- The bit that data symbol number `k` of a frame encodes. -/
def symBit (byteAt : Nat → Byte) (k : Nat) : Bool := (byteAt (k / 8)).getLsbD (7 - k % 8)

/-- The length of data symbol number `k` of a frame. -/
def symDur (p : Params) (byteAt : Nat → Byte) (k : Nat) : Nat := symbolDur p (symBit byteAt k) (symPol k)

theorem symPol_succ (k : Nat) : symPol (k + 1) = (symPol k).not := by
  unfold symPol
  obtain h | h := Nat.mod_two_eq_zero_or_one k
  · rw [if_neg (by omega), if_pos h]
    rfl
  · rw [if_pos (by omega), if_neg (by omega)]
    rfl

theorem symPol_whole (n : Nat) : symPol (8 * n) = .passive := if_pos (by omega)

section

variable {s : State}

theorem bitCount_div (s : State) : bitCount s / 8 = s.bytes.toNat := by
  have := s.bits.isLt
  unfold bitCount
  omega

theorem bitCount_mod (s : State) : bitCount s % 8 = s.bits.toNat := by
  have := s.bits.isLt
  unfold bitCount
  omega

/-- The symbol in flight is the one of the number that COUNT stands for. -/
theorem symbolInFlight_iff :
    SymbolInFlight s ↔
      s.txPol = symPol (bitCount s) ∧ s.txN.toNat = symDur s.params (bufRead s) (bitCount s) := by
  have hpol : symPol (bitCount s) = if s.bits.toNat % 2 = 0 then .passive else .active := by
    have hparity : bitCount s % 2 = s.bits.toNat % 2 := by unfold bitCount; omega
    rw [symPol, hparity]
  rw [symDur, symBit, bitCount_div, bitCount_mod, hpol]
  constructor
  · rintro ⟨polarity, length⟩
    exact ⟨polarity, polarity ▸ length⟩
  · rintro ⟨polarity, length⟩
    exact ⟨polarity, polarity ▸ length⟩

theorem startSymbol_inFlight {pol : Level} (hlegal : s.params.Legal) (hpol : pol = symPol (bitCount s)) :
    SymbolInFlight (startSymbol pol s) := by
  refine symbolInFlight_iff.mpr ⟨hpol, (symbolDur_toNat hlegal _ _).trans ?_⟩
  subst hpol
  show _ = symDur s.params (bufRead s) (bitCount s)
  rw [symDur, symBit, bitCount_div, bitCount_mod]
  rfl

theorem bitCount_countSent (hbytes : s.bytes.toNat < 12) : bitCount (countSent s) = bitCount s + 1 := by
  rw [bitCount, countSent_bytes_toNat hbytes, countSent_bits_toNat, bitCount, sentBytes, sentBits]
  split <;> omega

end

/-! ### What a tick can make of a transmission -/

/-- The timers and counts of a transmission in flight. -/
inductive TxInRange (s : State) : Prop
  | wait (phase : s.phase = .txWaitIdle) (wait : s.waitTmr.toNat < s.params.txIdleCeil)
      (sym : s.symTmr.toNat < s.params.rxIfsMin) (bytes : s.bytes = 0#4) (bits : s.bits = 0#3)
  | sof (phase : s.phase = .txSof) (sym : s.symTmr.toNat < s.params.txSof) (bytes : s.bytes = 0#4) (bits : s.bits = 0#3)
  | data (phase : s.phase = .txData) (sym : s.symTmr.toNat < s.txN.toNat) (more : s.bytes.toNat < s.len.toNat)
      (symbol : SymbolInFlight s)
  | eof (phase : s.phase = .txEof) (sym : s.symTmr.toNat < s.params.txEof) (sent : s.bytes.toNat = s.len.toNat)
      (bits : s.bits = 0#3)

/-- The length of the SOF, data symbol or EOF that is on the bus. -/
def pieceLength (s : State) : Nat :=
  match s.phase with
  | .txSof => s.params.txSof
  | .txData => s.txN.toNat
  | .txEof => s.params.txEof
  | _ => 0

/-- A state that has sampled `lv` and is otherwise one tick further into what is on the bus. -/
def oneTickOn (lv : Level) (s : State) : State := { sampleLine s lv with symTmr := advance s.symTmr }

/-- What one tick, with the line at `lv`, can make of a transmission `s`. -/
inductive TxMove (lv : Level) (s t : State) : Prop
  | waits (before : s.phase = .txWaitIdle) (phase : t.phase = .txWaitIdle) (drive : t.drive = s.drive)
      (wait : t.waitTmr.toNat = s.waitTmr.toNat + 1) (lt : t.waitTmr.toNat < s.params.txIdleCeil)
      (sym : t.symTmr.toNat < s.params.rxIfsMin) (bytes : t.bytes = s.bytes) (bits : t.bits = s.bits)
  | timesOut (before : s.phase = .txWaitIdle) (u : State) (eq : t = finish .busErr .txIdleTimeout u)
      (bytes : u.bytes = s.bytes)
  | beginsSof (before : s.phase = .txWaitIdle) (phase : t.phase = .txSof) (drive : t.drive = .active)
      (sym : t.symTmr = 0#16) (bytes : t.bytes = s.bytes) (bits : t.bits = s.bits)
  | goesOn (before : s.phase = .txSof ∨ s.phase = .txData ∨ s.phase = .txEof)
      (lt : s.symTmr.toNat + 1 < pieceLength s) (eq : t = oneTickOn lv s)
  | firstSymbol (before : s.phase = .txSof) (full : s.symTmr.toNat + 1 = pieceLength s) (phase : t.phase = .txData)
      (drive : t.drive = t.txPol) (sym : t.symTmr = 0#16) (symbol : SymbolInFlight t) (count : bitCount t = bitCount s)
      (more : t.bytes.toNat < s.len.toNat)
  | nextSymbol (before : s.phase = .txData) (full : s.symTmr.toNat + 1 = pieceLength s) (phase : t.phase = .txData)
      (drive : t.drive = t.txPol) (sym : t.symTmr = 0#16) (symbol : SymbolInFlight t)
      (count : bitCount t = bitCount s + 1) (more : t.bytes.toNat < s.len.toNat)
  | beginsEof (before : s.phase = .txData) (full : s.symTmr.toNat + 1 = pieceLength s) (phase : t.phase = .txEof)
      (drive : t.drive = .passive) (sym : t.symTmr = 0#16) (count : bitCount t = bitCount s + 1)
      (sent : t.bytes.toNat = s.len.toNat) (bits : t.bits = 0#3)
  | ends (before : s.phase = .txEof) (full : s.symTmr.toNat + 1 = pieceLength s)
      (eq : t = finish .ok .none (oneTickOn lv s))
  | contends (before : s.phase = .txData) (active : lv = .active) (passive : s.txPol = .passive)
      (lt : s.symTmr.toNat + 1 < pieceLength s) (eq : t = finish .busErr .contention (oneTickOn lv s))

/-! ### One tick, phase by phase -/

section

variable {s : State} (lv : Level)

theorem txMove_wait (hifs : 1 ≤ s.params.rxIfsMin) (hceil : s.params.txIdleCeil ≤ 0xFFFF)
    (hphase : s.phase = .txWaitIdle) : TxMove lv s (tickPhase lv s) := by
  have hadv := advance_toNat s.waitTmr
  rw [tickPhase_txWaitIdle lv s hphase]
  obtain ⟨_, _, h⟩ | ⟨_, _, h⟩ | ⟨hbusy, hlt, h⟩ := txWaitIdleTick_cases lv (sampleLine s lv)
  · rw [h]
    exact .beginsSof hphase rfl rfl rfl rfl rfl
  · exact .timesOut hphase _ h rfl
  · change (advance s.waitTmr).toNat < s.params.txIdleCeil at hlt
    have hwait : (advance s.waitTmr).toNat = s.waitTmr.toNat + 1 := by omega
    rw [h]
    refine .waits hphase hphase rfl hwait hlt ?_ rfl rfl
    show (if lv = .active then 0#16 else advance s.symTmr).toNat < s.params.rxIfsMin
    split
    · exact hifs
    · next hpassive => exact hbusy.resolve_left hpassive

/-- Inside its length a SOF, data symbol or EOF takes one tick; SYM_TMR does not saturate there. -/
theorem advance_of_lt {x : Ticks} {n : Nat} (hx : x.toNat < n) (hn : n ≤ 0xFFFF) : (advance x).toNat = x.toNat + 1 :=
  advance_toNat_of_lt (by omega)

theorem txMove_sof (hlegal : s.params.Legal) (hlen : 1 ≤ s.len.toNat) (hphase : s.phase = .txSof)
    (hsym : s.symTmr.toNat < s.params.txSof) (hbytes : s.bytes = 0#4) (hbits : s.bits = 0#3) :
    TxMove lv s (tickPhase lv s) := by
  have hpiece : pieceLength s = s.params.txSof := by simp only [pieceLength, hphase]
  have hadv : (advance s.symTmr).toNat = s.symTmr.toNat + 1 := by
    obtain ⟨_, _, ⟨_, _, hsof, _⟩, _⟩ := hlegal
    exact advance_of_lt hsym hsof.2
  rw [tickPhase_txSof lv s hphase]
  obtain ⟨hend, h⟩ | ⟨hlt, h⟩ := txSofTick_cases (sampleLine s lv)
  · change s.params.txSof ≤ (advance s.symTmr).toNat at hend
    have hfirst : Level.passive = symPol (bitCount (sampleLine s lv)) := by simp [bitCount, hbytes, hbits, symPol]
    have hsymbol := startSymbol_inFlight (s := sampleLine s lv) hlegal hfirst
    rw [h]
    exact .firstSymbol hphase (by omega) rfl rfl rfl ⟨hsymbol.polarity, hsymbol.length⟩ rfl (by simp [hbytes]; omega)
  · change (advance s.symTmr).toNat < s.params.txSof at hlt
    exact .goesOn (.inl hphase) (by omega) h

/-- The end of a data symbol: the next symbol, or the EOF when that was the last bit of the last byte (R184). -/
theorem txMove_symbolEnd (hlegal : s.params.Legal) (hlen : s.len.toNat ≤ 12) (hphase : s.phase = .txData)
    (hmore : s.bytes.toNat < s.len.toNat) (hsymbol : SymbolInFlight s) (hfull : s.symTmr.toNat + 1 = pieceLength s) :
    TxMove lv s (txSymbolEnd (oneTickOn lv s)) := by
  have hcount : bitCount (countSent (oneTickOn lv s)) = bitCount s + 1 := bitCount_countSent (by
    show s.bytes.toNat < 12
    omega)
  have hbits := s.bits.isLt
  have hsum := hcount
  unfold bitCount at hsum
  obtain ⟨hlast, h⟩ | ⟨hnot, h⟩ := txSymbolEnd_cases (oneTickOn lv s)
  · change (countSent (oneTickOn lv s)).bytes.toNat = s.len.toNat at hlast
    have hzero : (countSent (oneTickOn lv s)).bits = 0#3 := BitVec.eq_of_toNat_eq (by simp; omega)
    rw [h]
    exact .beginsEof hphase hfull rfl rfl rfl hcount hlast hzero
  · change (countSent (oneTickOn lv s)).bytes.toNat ≠ s.len.toNat at hnot
    have hpol : (oneTickOn lv s).txPol.not = symPol (bitCount (countSent (oneTickOn lv s))) := by
      rw [hcount, symPol_succ, ← (symbolInFlight_iff.mp hsymbol).1]
      rfl
    rw [h]
    refine .nextSymbol hphase hfull ?_ rfl rfl (startSymbol_inFlight (by simpa [oneTickOn] using hlegal) hpol) hcount ?_
    · simp [oneTickOn, hphase]
    · show (countSent (oneTickOn lv s)).bytes.toNat < s.len.toNat
      omega

theorem txMove_data (hlegal : s.params.Legal) (hlen : s.len.toNat ≤ 12) (hphase : s.phase = .txData)
    (hsym : s.symTmr.toNat < s.txN.toNat) (hmore : s.bytes.toNat < s.len.toNat) (hsymbol : SymbolInFlight s) :
    TxMove lv s (tickPhase lv s) := by
  have hpiece : pieceLength s = s.txN.toNat := by simp only [pieceLength, hphase]
  have hadv : (advance s.symTmr).toNat = s.symTmr.toNat + 1 := advance_of_lt hsym (by have := s.txN.isLt; omega)
  rw [tickPhase_txData lv s hphase]
  obtain ⟨hpassive, hactive, hlt, h⟩ | ⟨hend, h⟩ | ⟨_, hlt, h⟩ := txDataTick_cases lv (sampleLine s lv)
  · change (advance s.symTmr).toNat < s.txN.toNat at hlt
    exact .contends hphase hactive hpassive (by omega) h
  · change s.txN.toNat ≤ (advance s.symTmr).toNat at hend
    rw [h]
    exact txMove_symbolEnd lv hlegal hlen hphase hmore hsymbol (by omega)
  · change (advance s.symTmr).toNat < s.txN.toNat at hlt
    exact .goesOn (.inr (.inl hphase)) (by omega) h

theorem txMove_eof (heof : s.params.txEof ≤ 0xFFFF) (hphase : s.phase = .txEof)
    (hsym : s.symTmr.toNat < s.params.txEof) : TxMove lv s (tickPhase lv s) := by
  have hpiece : pieceLength s = s.params.txEof := by simp only [pieceLength, hphase]
  have hadv := advance_of_lt hsym heof
  rw [tickPhase_txEof lv s hphase]
  obtain ⟨hend, h⟩ | ⟨hlt, h⟩ := txEofTick_cases (sampleLine s lv)
  · change s.params.txEof ≤ (advance s.symTmr).toNat at hend
    exact .ends hphase (by omega) h
  · change (advance s.symTmr).toNat < s.params.txEof at hlt
    exact .goesOn (.inr (.inr hphase)) (by omega) h

theorem TxInRange.move (hlegal : s.params.Legal) (hlen : 1 ≤ s.len.toNat ∧ s.len.toNat ≤ 12) (h : TxInRange s) :
    TxMove lv s (tickPhase lv s) := by
  cases h with
  | wait phase =>
    obtain ⟨hwindows, _, ⟨_, _, _, _, hceil⟩, _⟩ := hlegal
    exact txMove_wait lv (by omega) hceil.2 phase
  | sof phase sym bytes bits => exact txMove_sof lv hlegal hlen.1 phase sym bytes bits
  | data phase sym more symbol => exact txMove_data lv hlegal hlen.2 phase sym more symbol
  | eof phase sym =>
    obtain ⟨_, _, ⟨_, _, _, heof, _⟩, _⟩ := hlegal
    exact txMove_eof lv heof.2 phase sym

end

end Sys2Proof.Machine
end

section
/-! PROOFS. A transmission from tick to tick: its ranges are kept, DRIVE is what the phase asks for, and the time on the bus
grows by one tick until the frame is over (43_transmitter.md R190). -/

namespace Sys2Proof.Machine

/-! ### The ranges are kept -/

/-- What each phase drives (45_control.md R242, clause 3). -/
def expectedDrive (s : State) : Level :=
  match s.phase with
  | .txSof => .active
  | .txData => s.txPol
  | _ => .passive

/-- What a tick ends a transmission with: OK after its last byte, and BUSERR with one of its two causes (60_exceptions.md
R261, R262). -/
def TxOutcome (r : ResultCode) (c : Cause) (u : State) : Prop :=
  (r = .ok ∧ c = .none ∧ u.bytes.toNat = u.len.toNat) ∨ (r = .busErr ∧ (c = .contention ∨ c = .txIdleTimeout))

section

variable {s t : State}

theorem TxInRange.waiting (h : TxInRange s) (hphase : s.phase = .txWaitIdle) :
    s.waitTmr.toNat < s.params.txIdleCeil ∧ s.bytes = 0#4 ∧ s.bits = 0#3 := by
  cases h with
  | wait _ wait _ bytes bits => exact ⟨wait, bytes, bits⟩
  | sof phase | data phase | eof phase => simp [phase] at hphase

theorem TxInRange.inSof (h : TxInRange s) (hphase : s.phase = .txSof) : s.bytes = 0#4 ∧ s.bits = 0#3 := by
  cases h with
  | sof _ _ bytes bits => exact ⟨bytes, bits⟩
  | wait phase | data phase | eof phase => simp [phase] at hphase

theorem TxInRange.inData (h : TxInRange s) (hphase : s.phase = .txData) :
    s.bytes.toNat < s.len.toNat ∧ SymbolInFlight s := by
  cases h with
  | data _ _ more symbol => exact ⟨more, symbol⟩
  | wait phase | sof phase | eof phase => simp [phase] at hphase

theorem TxInRange.inEof (h : TxInRange s) (hphase : s.phase = .txEof) :
    s.bytes.toNat = s.len.toNat ∧ s.bits = 0#3 := by
  cases h with
  | eof _ _ sent bits => exact ⟨sent, bits⟩
  | wait phase | sof phase | data phase => simp [phase] at hphase

theorem pieceLength_sof (h : s.phase = .txSof) : pieceLength s = s.params.txSof := by simp only [pieceLength, h]
theorem pieceLength_data (h : s.phase = .txData) : pieceLength s = s.txN.toNat := by simp only [pieceLength, h]
theorem pieceLength_eof (h : s.phase = .txEof) : pieceLength s = s.params.txEof := by simp only [pieceLength, h]

theorem expectedDrive_wait (h : s.phase = .txWaitIdle) : expectedDrive s = .passive := by simp only [expectedDrive, h]
theorem expectedDrive_sof (h : s.phase = .txSof) : expectedDrive s = .active := by simp only [expectedDrive, h]
theorem expectedDrive_data (h : s.phase = .txData) : expectedDrive s = s.txPol := by simp only [expectedDrive, h]
theorem expectedDrive_eof (h : s.phase = .txEof) : expectedDrive s = .passive := by simp only [expectedDrive, h]

theorem SymbolInFlight.length_pos (h : SymbolInFlight s) (hlegal : s.params.Legal) : 0 < s.txN.toNat := by
  rw [h.length]
  exact (symbolDur_bounds hlegal _ _).1

/-- Nothing on the bus is longer than SYM_TMR can count. -/
theorem pieceLength_le (hlegal : s.params.Legal) : pieceLength s ≤ 0xFFFF := by
  obtain ⟨_, _, ⟨_, _, hsof, heof, _⟩, _⟩ := hlegal
  have htxN := s.txN.isLt
  unfold pieceLength
  split <;> omega

theorem oneTickOn_sym (hlegal : s.params.Legal) (lv : Level) (hlt : s.symTmr.toNat + 1 < pieceLength s) :
    (oneTickOn lv s).symTmr.toNat = s.symTmr.toNat + 1 :=
  advance_of_lt (Nat.lt_of_succ_lt hlt) (pieceLength_le hlegal)

theorem TxInRange.goesOn (h : TxInRange s) (hlegal : s.params.Legal) (lv : Level)
    (hlt : s.symTmr.toNat + 1 < pieceLength s) : TxInRange (oneTickOn lv s) := by
  have hsym := oneTickOn_sym hlegal lv hlt
  rw [← hsym] at hlt
  cases h with
  | wait phase => simp [pieceLength, phase] at hlt
  | sof phase _ bytes bits => exact .sof phase (pieceLength_sof phase ▸ hlt) bytes bits
  | data phase _ more symbol =>
    exact .data phase (pieceLength_data phase ▸ hlt) more ⟨symbol.polarity, symbol.length⟩
  | eof phase _ sent bits => exact .eof phase (pieceLength_eof phase ▸ hlt) sent bits

/-- A transmission that goes on keeps its ranges, and DRIVE is what its phase asks for if it was so before. -/
theorem TxInRange.of_move {lv : Level} (hlegal : s.params.Legal) (hlen : s.len.toNat ≤ 12)
    (hparams : t.params = s.params) (hlen' : t.len = s.len) (h : TxInRange s) (hmove : TxMove lv s t) :
    (∃ r c u, t = finish r c u ∧ TxOutcome r c u ∧ u.bytes.toNat ≤ 12) ∨
      (TxInRange t ∧ (s.drive = expectedDrive s → t.drive = expectedDrive t)) := by
  obtain ⟨hwindows, _, ⟨_, _, hsof, heof, _⟩, _⟩ := id hlegal
  cases hmove with
  | waits before phase drive wait lt sym bytes bits =>
    obtain ⟨_, hbytes, hbits⟩ := h.waiting before
    refine .inr ⟨.wait phase (hparams ▸ lt) (hparams ▸ sym) (bytes.trans hbytes) (bits.trans hbits), fun hdrive => ?_⟩
    rw [drive, hdrive, expectedDrive_wait before, expectedDrive_wait phase]
  | timesOut before u eq bytes =>
    obtain ⟨_, hbytes, _⟩ := h.waiting before
    exact .inl ⟨_, _, u, eq, .inr ⟨rfl, .inr rfl⟩, by simp [bytes, hbytes]⟩
  | beginsSof before phase drive sym bytes bits =>
    obtain ⟨_, hbytes, hbits⟩ := h.waiting before
    refine .inr ⟨.sof phase ?_ (bytes.trans hbytes) (bits.trans hbits), fun _ => drive.trans (expectedDrive_sof phase).symm⟩
    rw [sym, hparams]
    exact hsof.1
  | goesOn before lt eq =>
    subst eq
    exact .inr ⟨h.goesOn hlegal lv lt, fun hdrive => hdrive⟩
  | firstSymbol before full phase drive sym symbol count more
  | nextSymbol before full phase drive sym symbol count more =>
    refine .inr ⟨.data phase ?_ (hlen' ▸ more) symbol, fun _ => drive.trans (expectedDrive_data phase).symm⟩
    rw [sym]
    exact symbol.length_pos (hparams ▸ hlegal)
  | beginsEof before full phase drive sym count sent bits =>
    refine .inr ⟨.eof phase ?_ (hlen' ▸ sent) bits, fun _ => drive.trans (expectedDrive_eof phase).symm⟩
    rw [sym, hparams]
    exact heof.1
  | ends before full eq =>
    have hsent := (h.inEof before).1
    exact .inl ⟨_, _, _, eq, .inl ⟨rfl, rfl, hsent⟩, hsent.trans_le hlen⟩
  | contends before active passive lt eq =>
    exact .inl ⟨_, _, _, eq, .inr ⟨rfl, .inl rfl⟩, ((h.inData before).1.trans_le hlen).le⟩

/-- One tick of a transmission: it ends with a listed outcome, or goes on in its ranges. -/
theorem TxInRange.tick (hlegal : s.params.Legal) (hlen : 1 ≤ s.len.toNat ∧ s.len.toNat ≤ 12) (h : TxInRange s)
    (lv : Level) :
    (∃ r c u, tickPhase lv s = finish r c u ∧ TxOutcome r c u ∧ u.bytes.toNat ≤ 12) ∨
      (TxInRange (tickPhase lv s) ∧
        (s.drive = expectedDrive s → (tickPhase lv s).drive = expectedDrive (tickPhase lv s))) :=
  h.of_move hlegal hlen.2 (tickPhase_params lv s) (tickPhase_len lv s) (h.move lv hlegal hlen)

end

/-! ### The time on the bus (R190) -/

/-- The length of the first `k` data symbols of a frame. -/
def sentDur (p : Params) (byteAt : Nat → Byte) (k : Nat) : Nat := ∑ j ∈ Finset.range k, symDur p byteAt j

/-- The ticks since the SOF of the frame in flight began. -/
def busTime (s : State) : Nat :=
  match s.phase with
  | .txSof => s.symTmr.toNat
  | .txData | .txEof => s.params.txSof + sentDur s.params (bufRead s) (bitCount s) + s.symTmr.toNat
  | _ => 0

/-- The ticks from the begin of the SOF to the end of the EOF. -/
def frameTime (s : State) : Nat :=
  s.params.txSof + sentDur s.params (bufRead s) (8 * s.len.toNat) + s.params.txEof

theorem sentDur_succ (p : Params) (byteAt : Nat → Byte) (k : Nat) :
    sentDur p byteAt (k + 1) = sentDur p byteAt k + symDur p byteAt k := Finset.sum_range_succ _ _

theorem sentDur_mono (p : Params) (byteAt : Nat → Byte) {j k : Nat} (h : j ≤ k) : sentDur p byteAt j ≤ sentDur p byteAt k :=
  Finset.sum_le_sum_of_subset (Finset.range_subset_range.mpr h)

theorem sentDur_le {p : Params} {n : Nat} (byteAt : Nat → Byte) (hshort : p.txShort ≤ n) (hlong : p.txLong ≤ n) (k : Nat) :
    sentDur p byteAt k ≤ k * n := by
  have hsymbol (j : Nat) : symDur p byteAt j ≤ n := by
    unfold symDur symbolDur
    split <;> assumption
  simpa [sentDur] using Finset.sum_le_card_nsmul (Finset.range k) (symDur p byteAt) n fun j _ => hsymbol j

/-- The symbols of byte `n` are the eight that start at number `8 n`. -/
theorem byteDurs_sum (p : Params) (byteAt : Nat → Byte) (n : Nat) :
    (byteDurs p (byteAt n)).sum = ∑ i ∈ Finset.range 8, symDur p byteAt (8 * n + i) := by
  have hsymbol (i : Nat) (hi : i < 8) :
      symDur p byteAt (8 * n + i) =
        symbolDur p ((byteAt n).getLsbD (7 - i)) (if i % 2 = 0 then .passive else .active) := by
    unfold symDur symBit symPol
    rw [show (8 * n + i) / 8 = n by omega, show (8 * n + i) % 8 = i by omega,
      show (8 * n + i) % 2 = i % 2 by omega]
  rw [Finset.sum_congr rfl fun i hi => hsymbol i (Finset.mem_range.mp hi)]
  simp [byteDurs, Finset.sum_range_succ]
  omega

theorem frameDur_eq (p : Params) (byteAt : Nat → Byte) (n : Nat) : frameDur p byteAt n = sentDur p byteAt (8 * n) := by
  induction n with
  | zero => rfl
  | succ n ih =>
    rw [frameDur, ih, byteDurs_sum, sentDur, sentDur, Nat.mul_succ, Finset.sum_range_add]

section

variable {s t : State}

theorem busTime_sof (h : s.phase = .txSof) : busTime s = s.symTmr.toNat := by simp only [busTime, h]

theorem busTime_symbols (h : s.phase = .txData ∨ s.phase = .txEof) :
    busTime s = s.params.txSof + sentDur s.params (bufRead s) (bitCount s) + s.symTmr.toNat := by
  obtain h | h := h <;> simp only [busTime, h]

/-- At the end of its symbol the frame has sent one more. -/
theorem sentDur_next (hphase : s.phase = .txData) (hsymbol : SymbolInFlight s)
    (hfull : s.symTmr.toNat + 1 = pieceLength s) :
    sentDur s.params (bufRead s) (bitCount s + 1) = sentDur s.params (bufRead s) (bitCount s) + (s.symTmr.toNat + 1) := by
  rw [sentDur_succ, ← (symbolInFlight_iff.mp hsymbol).2, hfull, pieceLength_data hphase]

theorem busTime_lt (h : TxInRange s) (hphase : s.phase ≠ .txWaitIdle) : busTime s < frameTime s := by
  unfold frameTime
  cases h with
  | wait phase => exact absurd phase hphase
  | sof phase sym => rw [busTime_sof phase]; omega
  | data phase sym more symbol =>
    have hnext := sentDur_succ s.params (bufRead s) (bitCount s)
    have hmono := sentDur_mono s.params (bufRead s) (j := bitCount s + 1) (k := 8 * s.len.toNat) (by
      have := s.bits.isLt
      unfold bitCount
      omega)
    rw [← (symbolInFlight_iff.mp symbol).2] at hnext
    rw [busTime_symbols (.inl phase)]
    omega
  | eof phase sym sent bits =>
    have hcount : bitCount s = 8 * s.len.toNat := by simp [bitCount, sent, bits]
    rw [busTime_symbols (.inr phase), hcount]
    omega

/-- A tick on the bus adds one to the time there, or ends the frame at its time, or is contention. -/
theorem TxInRange.busTime_move {lv : Level} (hlegal : s.params.Legal) (hparams : t.params = s.params)
    (hbuf : t.buf = s.buf) (h : TxInRange s) (hphase : s.phase ≠ .txWaitIdle) (hmove : TxMove lv s t) :
    (t.phase ≠ .txWaitIdle ∧ busTime t = busTime s + 1) ∨
      (busTime s + 1 = frameTime s ∧ s.phase = .txEof ∧ s.symTmr.toNat + 1 = s.params.txEof ∧
        t = finish .ok .none (oneTickOn lv s)) ∨
      (s.txPol = .passive ∧ lv = .active ∧ s.phase = .txData ∧ t.phase = .idle) := by
  have hread : bufRead t = bufRead s := funext (bufRead_congr hbuf)
  cases hmove with
  | waits before | timesOut before | beginsSof before => exact absurd before hphase
  | goesOn before lt eq =>
    have hsym := oneTickOn_sym hlegal lv lt
    subst eq
    refine .inl ⟨hphase, ?_⟩
    obtain before | before := before
    · rw [busTime_sof before, busTime_sof (s := oneTickOn lv s) before, hsym]
    · rw [busTime_symbols before, busTime_symbols (s := oneTickOn lv s) before, hsym]
      rfl
  | firstSymbol before full phase drive sym symbol count =>
    obtain ⟨hbytes, hbits⟩ := h.inSof before
    have hzero : bitCount t = 0 := by rw [count]; simp [bitCount, hbytes, hbits]
    refine .inl ⟨by simp [phase], ?_⟩
    rw [busTime_sof before, busTime_symbols (.inl phase), hzero, full, pieceLength_sof before, hparams, sym]
    rfl
  | nextSymbol before full phase drive sym symbol count =>
    have hnext := sentDur_next before (h.inData before).2 full
    refine .inl ⟨by simp [phase], ?_⟩
    rw [busTime_symbols (.inl before), busTime_symbols (.inl phase), count, hparams, hread, hnext, sym, BitVec.toNat_zero]
    omega
  | beginsEof before full phase drive sym count =>
    have hnext := sentDur_next before (h.inData before).2 full
    refine .inl ⟨by simp [phase], ?_⟩
    rw [busTime_symbols (.inl before), busTime_symbols (.inr phase), count, hparams, hread, hnext, sym, BitVec.toNat_zero]
    omega
  | ends before full eq =>
    obtain ⟨hsent, hbits⟩ := h.inEof before
    have hcount : bitCount s = 8 * s.len.toNat := by simp [bitCount, hsent, hbits]
    rw [pieceLength_eof before] at full
    refine .inr (.inl ⟨?_, before, full, eq⟩)
    rw [busTime_symbols (.inr before), frameTime, hcount, Nat.add_assoc, full]
  | contends before active passive lt eq => exact .inr (.inr ⟨passive, active, before, by rw [eq]; rfl⟩)

end

end Sys2Proof.Machine
end

section
/-! PROOFS. What any tick can do to the counters, to PHASE and to BUF, from every state (40_classifier.md R100, 10_state.md R36,
R38), and what it does to the fields that only `finish` writes. -/

namespace Sys2Proof.Machine

/-- A counter keeps its value, advances or restarts, PHASE follows its successors, and BUF changes in RX_DATA only, where
it is written at BYTES. -/
structure TickEffect (s t : State) : Prop where
  sym : t.symTmr = s.symTmr ∨ t.symTmr = advance s.symTmr ∨ t.symTmr = 0#16 ∨ t.symTmr = 1#16
  wait : t.waitTmr = s.waitTmr ∨ t.waitTmr = advance s.waitTmr
  phase : t.phase ∈ tickSuccessors s.phase
  buf : t.buf = s.buf ∨ (s.phase = .rxData ∧ ∃ v, t.buf = (bufWrite s s.bytes.toNat v).buf)

section

variable {s : State} (lv : Level)

/-! ### Phase by phase -/

theorem tickEffect_rxWaitIdle (hphase : s.phase = .rxWaitIdle) : TickEffect s (tickPhase lv s) := by
  rw [tickPhase_rxWaitIdle lv s hphase]
  obtain ⟨_, h⟩ | ⟨_, _, h⟩ | ⟨_, _, _, h⟩ | ⟨_, _, _, h⟩ := rxWaitIdleTick_cases lv (sampleLine s lv)
  all_goals
    rw [h]
    constructor <;> simp [hphase, tickSuccessors]

theorem tickEffect_rxWaitSof (hphase : s.phase = .rxWaitSof) : TickEffect s (tickPhase lv s) := by
  rw [tickPhase_rxWaitSof lv s hphase]
  obtain ⟨_, h⟩ | ⟨_, _, h⟩ | ⟨_, _, h⟩ := rxWaitSofTick_cases lv (sampleLine s lv)
  all_goals
    rw [h]
    constructor <;> simp [hphase, tickSuccessors]

theorem tickEffect_rxSof (hphase : s.phase = .rxSof) : TickEffect s (tickPhase lv s) := by
  rw [tickPhase_rxSof lv s hphase]
  obtain ⟨_, _, h⟩ | ⟨_, _, h⟩ | ⟨_, _, h⟩ | ⟨_, _, h⟩ := rxSofTick_cases lv (sampleLine s lv)
  all_goals
    rw [h]
    constructor <;> simp [hphase, tickSuccessors]

/-- A bit leaves BUF or writes the byte it completes. -/
theorem accumulate_buf (b : Bool) (s : State) :
    (accumulate b s).buf = s.buf ∨ ∃ v, (accumulate b s).buf = (bufWrite s s.bytes.toNat v).buf := by
  obtain hinside | heighth := bits_lt_or_eq s
  · exact .inl (by rw [accumulate_of_lt b hinside])
  · exact .inr ⟨_, by rw [accumulate_of_eq b heighth]⟩

/-- The 12-byte test leaves the state or ends the operation by `finish`. -/
theorem rxFrameFull_cases (s : State) : rxFrameFull s = finish .ok .none s ∨ rxFrameFull s = s := by
  unfold rxFrameFull
  split
  · exact .inl rfl
  · exact .inr rfl

theorem bufWrite_sampleLine (i : Nat) (v : Byte) : (bufWrite (sampleLine s lv) i v).buf = (bufWrite s i v).buf := by
  unfold bufWrite
  split <;> rfl

theorem tickEffect_rxData (hphase : s.phase = .rxData) : TickEffect s (tickPhase lv s) := by
  by_cases hlast : lv = s.last
  · rw [tickPhase_hold hphase hlast]
    obtain ⟨_, h⟩ | ⟨_, h⟩ := rxHoldTick_cases (sampleLine s lv)
    all_goals
      rw [h]
      constructor <;> simp [hphase, tickSuccessors]
  · rw [tickPhase_transition hphase hlast]
    obtain ⟨_, h⟩ | ⟨_, h⟩ := rxTransitionTick_cases lv (sampleLine s lv)
    · rw [h]
      constructor <;> simp [hphase, tickSuccessors]
    · generalize (decodeSymbol _ _ _ _).bit = b at h
      have hbuf := accumulate_buf b (sampleLine s lv)
      simp only [bufWrite_sampleLine] at hbuf
      rw [h]
      obtain h | h := rxFrameFull_cases { accumulate b (sampleLine s lv) with last := lv, symTmr := 1#16 }
      all_goals
        rw [h]
        exact ⟨by simp, by simp, by simp [hphase, tickSuccessors], hbuf.imp_right fun hv => ⟨hphase, hv⟩⟩

theorem tickEffect_txWaitIdle (hphase : s.phase = .txWaitIdle) : TickEffect s (tickPhase lv s) := by
  rw [tickPhase_txWaitIdle lv s hphase]
  obtain ⟨_, _, h⟩ | ⟨_, _, h⟩ | ⟨_, _, h⟩ := txWaitIdleTick_cases lv (sampleLine s lv)
  all_goals
    rw [h]
    constructor <;> simp [hphase, tickSuccessors]
  all_goals cases lv <;> simp

theorem tickEffect_txSof (hphase : s.phase = .txSof) : TickEffect s (tickPhase lv s) := by
  rw [tickPhase_txSof lv s hphase]
  obtain ⟨_, h⟩ | ⟨_, h⟩ := txSofTick_cases (sampleLine s lv)
  all_goals
    rw [h]
    constructor <;> simp [hphase, tickSuccessors]

theorem tickEffect_txData (hphase : s.phase = .txData) : TickEffect s (tickPhase lv s) := by
  rw [tickPhase_txData lv s hphase]
  obtain ⟨_, _, _, h⟩ | ⟨_, h⟩ | ⟨_, _, h⟩ := txDataTick_cases lv (sampleLine s lv)
  · rw [h]
    constructor <;> simp [hphase, tickSuccessors]
  · rw [h]
    obtain ⟨_, h⟩ | ⟨_, h⟩ := txSymbolEnd_cases { sampleLine s lv with symTmr := advance (sampleLine s lv).symTmr }
    all_goals
      rw [h]
      constructor <;> simp [hphase, tickSuccessors]
  · rw [h]
    constructor <;> simp [hphase, tickSuccessors]

theorem tickEffect_txEof (hphase : s.phase = .txEof) : TickEffect s (tickPhase lv s) := by
  rw [tickPhase_txEof lv s hphase]
  obtain ⟨_, h⟩ | ⟨_, h⟩ := txEofTick_cases (sampleLine s lv)
  all_goals
    rw [h]
    constructor <;> simp [hphase, tickSuccessors]

/-! ### From every state -/

variable (s)

theorem tickPhase_effect : TickEffect s (tickPhase lv s) := by
  cases hphase : s.phase with
  | idle =>
    rw [tickPhase_idle lv s hphase]
    constructor <;> simp [hphase, tickSuccessors]
  | rxWaitIdle => exact tickEffect_rxWaitIdle lv hphase
  | rxWaitSof => exact tickEffect_rxWaitSof lv hphase
  | rxSof => exact tickEffect_rxSof lv hphase
  | rxData => exact tickEffect_rxData lv hphase
  | txWaitIdle => exact tickEffect_txWaitIdle lv hphase
  | txSof => exact tickEffect_txSof lv hphase
  | txData => exact tickEffect_txData lv hphase
  | txEof => exact tickEffect_txEof lv hphase

variable {s}

/-- Only a reception's data phase writes BUF. -/
theorem tickPhase_buf (hphase : s.phase ≠ .rxData) : (tickPhase lv s).buf = s.buf :=
  (tickPhase_effect s lv).buf.resolve_right fun h => hphase h.1

/-- A tick keeps the canonical form of BUF. -/
theorem tickPhase_bufWf (h : Memory.wf s.buf = true) : Memory.wf (tickPhase lv s).buf = true := by
  obtain hbuf | ⟨_, v, hbuf⟩ := (tickPhase_effect s lv).buf
  · rwa [hbuf]
  · rw [hbuf]
    exact bufWrite_wf s _ v h

/-- A tick leaves every byte of BUF but the one at BYTES. -/
theorem bufRead_tickPhase (h : Memory.wf s.buf = true) {i : Nat} (hi : i ≠ s.bytes.toNat) :
    bufRead (tickPhase lv s) i = bufRead s i := by
  obtain hbuf | ⟨_, v, hbuf⟩ := (tickPhase_effect s lv).buf
  · exact bufRead_congr hbuf i
  · rw [bufRead_congr hbuf, bufRead_bufWrite s _ i v h, if_neg fun h => hi h.1]

/-- STATUS.LINE is the sample (45_control.md R231). -/
theorem tickPhase_line : (tickPhase lv s).line = lv := by
  obtain ⟨_, h⟩ | ⟨_, _, _, _, h, _⟩ | ⟨_, _, h⟩ := tickPhase_cases s lv
  all_goals rw [h]; rfl

/-- A tick either finishes, with DONE and an outcome, or leaves what `finish` writes but PHASE and DRIVE. -/
theorem tickPhase_status :
    ((tickPhase lv s).busy = false ∧ (tickPhase lv s).done = true ∧ (tickPhase lv s).result ≠ .none ∧
        (tickPhase lv s).phase = .idle ∧ (tickPhase lv s).drive = .passive) ∨
      ((tickPhase lv s).busy = s.busy ∧ (tickPhase lv s).done = s.done ∧ (tickPhase lv s).result = s.result ∧
        (tickPhase lv s).cause = s.cause ∧ ((tickPhase lv s).phase = .idle ↔ s.phase = .idle)) := by
  obtain ⟨hidle, h⟩ | ⟨_, _, _, _, h, hr, _⟩ | ⟨hidle, hon, h⟩ := tickPhase_cases s lv
  · exact .inr (by rw [h]; exact ⟨rfl, rfl, rfl, rfl, Iff.rfl⟩)
  · exact .inl (by rw [h]; exact ⟨rfl, rfl, hr, rfl, rfl⟩)
  · exact .inr ⟨by rw [h]; rfl, by rw [h]; rfl, by rw [h]; rfl, by rw [h]; rfl, iff_of_false hon hidle⟩

end

end Sys2Proof.Machine
end

section
/-! PROOFS. The invariant (45_control.md R242): the reset state meets it, and a tick, a command, a host write and a step
keep it. -/

namespace Sys2Proof.Machine

/-! ### Between the invariant and the ranges of an operation -/

section

variable {s t : State}

theorem BlockInv.drive (h : BlockInv s) : s.drive = expectedDrive s := by
  cases hphase : s.phase with
  | txSof => exact (h.coherent.driveSof hphase).trans (expectedDrive_sof hphase).symm
  | txData => exact (h.coherent.driveData hphase).trans (expectedDrive_data hphase).symm
  | _ => simpa [expectedDrive, hphase] using h.coherent.driveElse (by simp [hphase]) (by simp [hphase])

theorem BlockInv.rxInRange (h : BlockInv s) (hrx : s.phase.isRx = true) : RxInRange s := by
  cases hphase : s.phase with
  | rxWaitIdle =>
    obtain ⟨hbytes, hbits⟩ := h.countZero (.inl hphase)
    exact .wait (.inl hphase) (h.timers.rxWaitIdle hphase) hbytes hbits
  | rxWaitSof =>
    obtain ⟨hbytes, hbits⟩ := h.countZero (.inr (.inl hphase))
    exact .wait (.inr hphase) (h.timers.rxWaitSof hphase) hbytes hbits
  | rxSof =>
    obtain ⟨hbytes, hbits⟩ := h.countZero (.inr (.inr (.inl hphase)))
    exact .sof hphase (h.timers.rxSof hphase) hbytes hbits
  | rxData => exact .data hphase (h.timers.rxData hphase) (h.rxRoom hrx)
  | _ => simp [hphase, Phase.isRx] at hrx

theorem BlockInv.txInRange (h : BlockInv s) (htx : s.phase.isTx = true) : TxInRange s := by
  cases hphase : s.phase with
  | txWaitIdle =>
    obtain ⟨hbytes, hbits⟩ := h.countZero (.inr (.inr (.inr (.inl hphase))))
    obtain ⟨hwait, hsym⟩ := h.timers.txWaitIdle hphase
    exact .wait hphase hwait hsym hbytes hbits
  | txSof =>
    obtain ⟨hbytes, hbits⟩ := h.countZero (.inr (.inr (.inr (.inr hphase))))
    exact .sof hphase (h.timers.txSof hphase) hbytes hbits
  | txData => exact .data hphase (h.timers.txData hphase) (h.coherent.bytesLtLen (.inr (.inr hphase))) (h.symbol hphase)
  | txEof => exact .eof hphase (h.timers.txEof hphase) (h.coherent.bytesEqLen hphase) (h.eofWhole hphase)
  | _ => simp [hphase, Phase.isTx] at htx

/-- A reception in its ranges that drives nothing meets the invariant. -/
theorem BlockInv.of_rxInRange (f : Flying s) (hop : s.op = .receive) (hdrive : s.drive = .passive) (h : RxInRange s) :
    BlockInv s := by
  cases h with
  | wait phase wait bytes bits =>
    exact phase.elim (fun hphase => .of_rxWaitIdle f hphase hop hdrive bytes bits wait)
      (fun hphase => .of_rxWaitSof f hphase hop hdrive bytes bits wait)
  | sof phase sym bytes bits => exact .of_rxSof f phase hop hdrive bytes bits sym
  | data phase sym room => exact .of_rxData f phase hop hdrive room sym

/-- A transmission in its ranges that drives what its phase asks for meets the invariant. -/
theorem BlockInv.of_txInRange (f : Flying s) (hop : s.op = .transmit) (hlen : 1 ≤ s.len.toNat ∧ s.len.toNat ≤ 12)
    (hdrive : s.drive = expectedDrive s) (h : TxInRange s) : BlockInv s := by
  cases h with
  | wait phase wait sym bytes bits =>
    exact .of_txWaitIdle f phase hop (hdrive.trans (expectedDrive_wait phase)) bytes bits hlen ⟨wait, sym⟩
  | sof phase sym bytes bits => exact .of_txSof f phase hop (hdrive.trans (expectedDrive_sof phase)) bytes bits hlen sym
  | data phase sym more symbol =>
    exact .of_txData f phase hop (hdrive.trans (expectedDrive_data phase)) more hlen symbol sym
  | eof phase sym sent bits => exact .of_txEof f phase hop (hdrive.trans (expectedDrive_eof phase)) sent bits hlen sym

theorem RxInRange.isRx (h : RxInRange s) : s.phase.isRx = true := by
  cases h with
  | wait phase => obtain phase | phase := phase <;> rw [phase] <;> rfl
  | sof phase | data phase => rw [phase]; rfl

theorem TxInRange.isTx (h : TxInRange s) : s.phase.isTx = true := by
  cases h with
  | wait phase | sof phase | data phase | eof phase => rw [phase]; rfl

theorem Phase.ne_idle_of_isRx {p : Phase} (h : p.isRx = true) : p ≠ .idle := by rintro rfl; cases h

theorem Phase.ne_idle_of_isTx {p : Phase} (h : p.isTx = true) : p ≠ .idle := by rintro rfl; cases h

/-- A phase is IDLE, of a reception or of a transmission. -/
theorem Phase.kind (p : Phase) : p = .idle ∨ p.isRx = true ∨ p.isTx = true := by cases p <;> decide

/-! ### A tick -/

/-- An operation that a tick leaves in flight has the flags it had. -/
theorem Flying.tick (f : Flying s) (lv : Level) (hon : (tickPhase lv s).phase ≠ .idle) : Flying (tickPhase lv s) := by
  obtain ⟨_, _, _, hidle, _⟩ | ⟨hbusy, hdone, hresult, hcause, _⟩ := tickPhase_status (s := s) lv
  · exact absurd hidle hon
  · exact ⟨hbusy.trans f.busy, hdone.trans f.done, hresult.trans f.result, hcause.trans f.cause,
      tickPhase_bufWf lv f.bufWf⟩

theorem BlockInv.of_tick_finish {r : ResultCode} {c : Cause} {u : State} {lv : Level} (h : BlockInv s)
    (heq : tickPhase lv s = finish r c u) (hbytes : u.bytes.toNat ≤ 12) (hcause : c ≠ .none → r = .busErr) :
    BlockInv (tickPhase lv s) := by
  have hwf := tickPhase_bufWf lv h.bufWf
  rw [heq] at hwf ⊢
  exact .of_finish hbytes hwf hcause

theorem RxOutcome.cause_only {r : ResultCode} {c : Cause} (h : RxOutcome r c) : c ≠ .none → r = .busErr := by
  obtain ⟨_, rfl⟩ | ⟨_, rfl⟩ | ⟨rfl, _⟩ := h
  · exact fun h => absurd rfl h
  · exact fun h => absurd rfl h
  · exact fun _ => rfl

theorem TxOutcome.cause_only {r : ResultCode} {c : Cause} {u : State} (h : TxOutcome r c u) : c ≠ .none → r = .busErr := by
  obtain ⟨_, rfl, _⟩ | ⟨rfl, _⟩ := h
  · exact fun h => absurd rfl h
  · exact fun _ => rfl

theorem BlockInv.tick_rx (hlegal : s.params.Legal) (h : BlockInv s) (hrx : s.phase.isRx = true) (lv : Level) :
    BlockInv (tickPhase lv s) := by
  have hop : (tickPhase lv s).op = .receive := (tickPhase_op lv s).trans (h.coherent.opRx hrx)
  have hpassive : s.drive = .passive := by
    refine h.coherent.driveElse ?_ ?_ <;> rintro hphase <;> simp [hphase, Phase.isRx] at hrx
  obtain ⟨r, c, u, heq, houtcome, hbytes⟩ | ⟨hrange, hdrive, _⟩ := (h.rxInRange hrx).tick hlegal lv
  · exact h.of_tick_finish heq hbytes houtcome.cause_only
  · have hon := Phase.ne_idle_of_isRx hrange.isRx
    exact .of_rxInRange ((h.flying (Phase.ne_idle_of_isRx hrx)).tick lv hon) hop (hdrive.trans hpassive) hrange

theorem BlockInv.tick_tx (hlegal : s.params.Legal) (h : BlockInv s) (htx : s.phase.isTx = true) (lv : Level) :
    BlockInv (tickPhase lv s) := by
  have hop : (tickPhase lv s).op = .transmit := (tickPhase_op lv s).trans (h.coherent.opTx htx)
  have hlen := h.txLen htx
  obtain ⟨r, c, u, heq, houtcome, hbytes⟩ | ⟨hrange, hdrive⟩ := (h.txInRange htx).tick hlegal hlen lv
  · exact h.of_tick_finish heq hbytes houtcome.cause_only
  · have hon := Phase.ne_idle_of_isTx hrange.isTx
    exact .of_txInRange ((h.flying (Phase.ne_idle_of_isTx htx)).tick lv hon) hop (by simpa using hlen) (hdrive h.drive)
      hrange

/-- STATUS.LINE and the queue are not in the invariant. -/
theorem BlockInv.sampleLine (h : BlockInv s) (lv : Level) : BlockInv (sampleLine s lv) :=
  h.congr (by simp)

theorem BlockInv.takeInput (h : BlockInv s) : BlockInv (takeInput s).2 := h.congr (by simp)

theorem BlockInv.tick (hlegal : s.params.Legal) (h : BlockInv s) (lv : Level) : BlockInv (tickPhase lv s) := by
  obtain hidle | hrx | htx := Phase.kind s.phase
  · rw [tickPhase_idle lv s hidle]
    exact h.sampleLine lv
  · exact h.tick_rx hlegal hrx lv
  · exact h.tick_tx hlegal htx lv

/-! ### A command and a host write -/

theorem BlockInv.reject (h : BlockInv s) : BlockInv (reject s) := h.congr (by simp)

theorem BlockInv.receive (h : BlockInv s) (hidle : s.busy = false) :
    BlockInv { launch .rxWaitIdle (claim .receive s) with shift := 0x00#8, last := .passive } := by
  have hphase := h.phase_idle hidle
  have hdrive : s.drive = .passive := h.coherent.driveElse (by simp [hphase]) (by simp [hphase])
  refine .of_rxWaitIdle ⟨rfl, rfl, rfl, rfl, h.bufWf⟩ rfl rfl hdrive rfl rfl ?_
  exact lt_max_of_lt_right Nat.one_pos

theorem BlockInv.transmit (hlegal : s.params.Legal) (h : BlockInv s) (hidle : s.busy = false) (hlen : lenLegal s = true) :
    BlockInv (launch .txWaitIdle (claim .transmit s)) := by
  obtain ⟨hwindows, _, ⟨_, _, _, _, hceil⟩, hmax, _⟩ := hlegal
  have hphase := h.phase_idle hidle
  have hdrive : s.drive = .passive := h.coherent.driveElse (by simp [hphase]) (by simp [hphase])
  have hrange := (lenLegal_iff s).mp hlen
  rw [hmax] at hrange
  exact .of_txWaitIdle ⟨rfl, rfl, rfl, rfl, h.bufWf⟩ rfl rfl hdrive rfl rfl hrange ⟨hceil.1, by simp; omega⟩

theorem BlockInv.dataError (h : BlockInv s) (hidle : s.busy = false) :
    BlockInv (raiseDataError (claim .transmit s)) := by
  have hphase := h.phase_idle hidle
  have hdrive : s.drive = .passive := h.coherent.driveElse (by simp [hphase]) (by simp [hphase])
  exact .of_idle hphase hidle hdrive (Nat.zero_le _) h.bufWf fun hcause => absurd rfl hcause

theorem BlockInv.exec {i : Instr} (hlegal : s.params.Legal) (h : BlockInv s) (heq : exec i s = .next t) : BlockInv t := by
  obtain ⟨u, hu, hcase⟩ := exec_cases i s
  cases hu.symm.trans heq
  obtain rfl | rfl | ⟨hidle, rfl⟩ | ⟨hidle, hlen, rfl⟩ | ⟨hidle, _, rfl⟩ | ⟨_, rfl⟩ | ⟨c, rfl⟩ | ⟨_, _, _, rfl⟩ := hcase
  · exact h
  · exact h.reject
  · exact h.receive hidle
  · exact h.transmit hlegal hidle hlen
  · exact h.dataError hidle
  · exact .of_finish h.coherent.bytesLe h.bufWf fun hcause => absurd rfl hcause
  · exact h.congr (by simp)
  · exact h.congr (by simp)

/-- With an operation in flight DONE is 0, and a write to STATUS leaves it so. -/
theorem BlockInv.statusW1C (h : BlockInv s) (s0 : State) (v : Byte) : BlockInv (statusW1C s0 v s) := by
  cases hbusy : s.busy with
  | false => exact h.congr_idle hbusy (by simp) h.bufWf
  | true =>
    have hdone : s.done = false := (h.coherent.inFlight hbusy).1
    exact h.congr (by simp [hdone])

theorem BlockInv.hostWrite {s0 : State} {a : Addr} {v : Byte} (hlegal : s.params.Legal) (h : BlockInv s)
    (heq : hostWrite s0 a v s = .next t) : BlockInv t := by
  obtain ⟨u, hu, hcase⟩ := hostWrite_cases s0 a v s
  cases hu.symm.trans heq
  obtain rfl | rfl | ⟨hidle, rfl | rfl | rfl | rfl | ⟨i, _, rfl⟩⟩ | rfl | (rfl | rfl | rfl | rfl | rfl) | ⟨i, hexec⟩ := hcase
  · exact h
  · exact h.reject
  · exact h.congr_idle hidle (by simp) h.bufWf
  · exact h.congr_idle hidle (by simp) h.bufWf
  · exact h.congr_idle hidle (by simp) h.bufWf
  · exact h.congr_idle hidle (by simp) h.bufWf
  · exact h.congr_idle hidle (by simp) (bufWrite_wf s i v h.bufWf)
  · exact h.statusW1C s0 v
  · exact h.congr (by simp)
  · exact h.congr (by simp)
  · exact h.congr (by simp)
  · exact h.congr (by simp)
  · exact h.congr (by simp)
  · exact h.exec hlegal hexec

/-! ### Reset, a step and reachability -/

theorem blockInv_resetWith (p : Params) (inputs : List CycleInput) (freeIdx : Nat) :
    BlockInv (State.resetWith p inputs freeIdx) :=
  .of_idle rfl rfl rfl (Nat.zero_le _) Memory.wf_nil fun hcause => absurd rfl hcause

theorem afterTick_params (inp : CycleInput) (lv : Level) (s : State) : (afterTick inp lv s).params = s.params := by
  obtain ⟨_, h⟩ | ⟨_, h⟩ := afterTick_cases inp lv s <;> rw [h]
  exact tickPhase_params lv s

theorem BlockInv.afterTick (hlegal : s.params.Legal) (h : BlockInv s) (inp : CycleInput) (lv : Level) :
    BlockInv (afterTick inp lv s) := by
  obtain ⟨_, heq⟩ | ⟨_, heq⟩ := afterTick_cases inp lv s <;> rw [heq]
  · exact h.tick hlegal lv
  · exact h

theorem BlockInv.step (h : BlockInv s) (hstep : step s = .next t) : BlockInv t := by
  have hlegal : (Sys2Proof.Machine.takeInput s).2.params.Legal := by simpa using legal_of_step hstep
  have hinput := h.takeInput
  rw [step_of_legal (legal_of_step hstep)] at hstep
  generalize (Sys2Proof.Machine.takeInput s).2 = s0 at hlegal hinput hstep
  generalize busLevel _ _ = lv at hstep
  obtain ⟨u, hu, hcase⟩ := cycle_cases (Sys2Proof.Machine.takeInput s).1 lv s0
  cases hu.symm.trans hstep
  obtain ⟨_, rfl⟩ | ⟨_, _, rfl⟩ | ⟨_, _, hwrite⟩ := hcase
  · exact blockInv_resetWith _ _ _
  · exact hinput.afterTick hlegal _ lv
  · exact (hinput.afterTick hlegal _ lv).hostWrite (by rwa [afterTick_params]) hwrite

theorem BlockInv.of_reachable (h : Reachable s) : BlockInv s := by
  induction h with
  | reset p inputs freeIdx _ => exact blockInv_resetWith p inputs freeIdx
  | step s t _ hstep ih => exact ih.step hstep

end

end Sys2Proof.Machine
end

section
/-! The statements of 45_control.md, Invariants. -/

open Sys2Proof Sys2Proof.Machine

/-- Settles O44: the reset state is idle, drives Passive and has an empty buffer. -/
theorem resetStateSatisfiesInv : Obligations.ResetStateSatisfiesInv := blockInv_resetWith

/-- Settles O45: reset, the tick phase and the host write each keep the invariant. -/
theorem everyStepKeepsInv : Obligations.EveryStepKeepsInv := fun _ _ => BlockInv.step

/-- Settles O46: the invariant holds in every reachable state, and R242 is part of it. -/
theorem reachableStatesAreCoherent : Obligations.ReachableStatesAreCoherent := fun _ h => (BlockInv.of_reachable h).coherent

/-- Settles O47: in TX_DATA the invariant knows the symbol in flight, by its number in the frame. -/
theorem symbolInFlightIsTheFramesSymbol : Obligations.SymbolInFlightIsTheFramesSymbol := by
  intro s hreach hphase
  have hinv := BlockInv.of_reachable hreach
  obtain ⟨hpol, hlength⟩ := symbolInFlight_iff.mp (hinv.symbol hphase)
  have hmore := hinv.coherent.bytesLtLen (.inr (.inr hphase))
  have hbits := s.bits.isLt
  refine ⟨(hinv.coherent.driveData hphase).trans hpol, hpol, hlength, hinv.timers.txData hphase, ?_⟩
  omega

end

section
/-! PROOFS. How long an operation lasts on every line (42_receiver.md R158, 43_transmitter.md R190, 70_reset_and_hazards.md
R297), and a block that is idle. -/

namespace Sys2Proof.Machine

/-! ### Runs of ticks -/

theorem tickRun_cons (lv : Level) (lvs : List Level) (s : State) : tickRun (lv :: lvs) s = tickRun lvs (tickPhase lv s) :=
  rfl

theorem tickRun_concat (lvs : List Level) (lv : Level) (s : State) :
    tickRun (lvs ++ [lv]) s = tickPhase lv (tickRun lvs s) := List.foldl_concat ..

/-- One more tick than the first `k` samples. -/
theorem tickRun_take_succ {lvs : List Level} {k : Nat} (hk : k < lvs.length) (s : State) :
    tickRun (lvs.take (k + 1)) s = tickPhase lvs[k] (tickRun (lvs.take k) s) := by
  rw [List.take_succ_eq_append_getElem hk, tickRun_concat]

/-- An idle block stays idle and drives what it drove, whatever it samples (45_control.md R231). -/
theorem tickRun_idle {s : State} (lvs : List Level) (h : s.phase = .idle) :
    (tickRun lvs s).phase = .idle ∧ (tickRun lvs s).drive = s.drive := by
  induction lvs generalizing s with
  | nil => exact ⟨h, rfl⟩
  | cons lv lvs ih =>
    rw [tickRun_cons, tickPhase_idle lv s h]
    exact ih h

/-- What runs down by a tick at least, as long as the operation is in flight, ends it in time. -/
theorem tickRun_ends {I : State → Prop} {budget : State → Nat} (hpos : ∀ s, I s → 0 < budget s)
    (hstep : ∀ s lv, I s →
      (tickPhase lv s).busy = false ∨ (I (tickPhase lv s) ∧ budget (tickPhase lv s) < budget s))
    (lvs : List Level) {s : State} (hs : I s) (hlength : budget s ≤ lvs.length) :
    ∃ k, k ≤ budget s ∧ (tickRun (lvs.take k) s).busy = false := by
  have hnow := hpos s hs
  induction lvs generalizing s with
  | nil => simp at hlength; omega
  | cons lv lvs ih =>
    obtain hend | ⟨hs', hlt⟩ := hstep s lv hs
    · exact ⟨1, hnow, hend⟩
    · obtain ⟨k, hk, hend⟩ := ih hs' (by simp at hlength; omega) (hpos _ hs')
      exact ⟨k + 1, by omega, hend⟩

/-! ### The receiver's bound -/

theorem rxBudget_pos {s : State} (hlegal : s.params.Legal) (h : RxInRange s) : 0 < rxBudget s := by
  have hsymbol : 1 ≤ rxSymbolMax s.params := le_max_left _ _
  cases h with
  | wait phase => rw [rxBudget_wait phase]; omega
  | sof phase => rw [rxBudget_sof phase]; omega
  | data phase sym => rw [rxBudget_data phase]; omega

/-- A reception is over within its budget, on every line. -/
theorem RxInRange.ends {s : State} (hlegal : s.params.Legal) (h : RxInRange s) {lvs : List Level} {bound : Nat}
    (hbound : rxBudget s = bound) (hlength : bound ≤ lvs.length) :
    ∃ k, k ≤ bound ∧ (tickRun (lvs.take k) s).busy = false := by
  subst hbound
  refine tickRun_ends (I := fun t => t.params.Legal ∧ RxInRange t) (fun t ht => rxBudget_pos ht.1 ht.2) ?_ lvs
    ⟨hlegal, h⟩ hlength
  rintro t lv ⟨hlegal, h⟩
  obtain ⟨_, _, _, heq, _⟩ | ⟨hrange, _, hlt⟩ := h.tick hlegal lv
  · exact .inl (by rw [heq]; rfl)
  · exact .inr ⟨⟨by rwa [tickPhase_params], hrange⟩, hlt⟩

/-- The state an accepted RECEIVE leaves (42_receiver.md R150). -/
theorem eq_of_exec_receive {s s1 : State} (hidle : s.busy = false) (h : exec .receive s = .next s1) :
    s1 = { launch .rxWaitIdle (claim .receive s) with shift := 0x00#8, last := .passive } :=
  (Host.Outcome.next.inj ((execReceive_idle hidle).symm.trans h)).symm

theorem rxInRange_of_receive (s : State) :
    RxInRange { launch .rxWaitIdle (claim .receive s) with shift := 0x00#8, last := .passive } :=
  .wait (.inl rfl) (lt_max_of_lt_right Nat.one_pos) rfl rfl

/-! ### The transmitter's bound -/

/-- The ticks a transmission can still take: the rest of its wait and the frame, or the rest of the frame. -/
def txBudget (s : State) : Nat :=
  if s.phase = .txWaitIdle then (s.params.txIdleCeil - s.waitTmr.toNat) + frameTime s else frameTime s - busTime s

theorem txBudget_wait {s : State} (h : s.phase = .txWaitIdle) :
    txBudget s = (s.params.txIdleCeil - s.waitTmr.toNat) + frameTime s := if_pos h

theorem txBudget_onBus {s : State} (h : s.phase ≠ .txWaitIdle) : txBudget s = frameTime s - busTime s := if_neg h

theorem txBudget_pos {s : State} (h : TxInRange s) : 0 < txBudget s := by
  by_cases hphase : s.phase = .txWaitIdle
  · obtain ⟨hwait, _⟩ := h.waiting hphase
    rw [txBudget_wait hphase]
    omega
  · have hlt := busTime_lt h hphase
    rw [txBudget_onBus hphase]
    omega

theorem frameTime_congr {s t : State} (hparams : t.params = s.params) (hbuf : t.buf = s.buf) (hlen : t.len = s.len) :
    frameTime t = frameTime s := by
  have hread : bufRead t = bufRead s := funext (bufRead_congr hbuf)
  simp only [frameTime, hparams, hread, hlen]

theorem TxInRange.budget_wait {s t : State} {lv : Level} (hparams : t.params = s.params)
    (hframe : frameTime t = frameTime s) (h : TxInRange s) (hphase : s.phase = .txWaitIdle) (hmove : TxMove lv s t)
    (hon : t.phase ≠ .idle) : txBudget t < txBudget s := by
  obtain ⟨hceil, _⟩ := h.waiting hphase
  rw [txBudget_wait hphase]
  cases hmove with
  | waits _ phase _ wait =>
    rw [txBudget_wait phase, hparams, hframe]
    omega
  | timesOut _ u eq => exact absurd (by rw [eq]; rfl) hon
  | beginsSof _ phase =>
    rw [txBudget_onBus (by simp [phase]), hframe]
    omega
  | goesOn before => simp [hphase] at before
  | firstSymbol before | nextSymbol before | beginsEof before | ends before | contends before =>
    exact nomatch hphase.symm.trans before

theorem TxInRange.budget_onBus {s t : State} {lv : Level} (hlegal : s.params.Legal) (hparams : t.params = s.params)
    (hbuf : t.buf = s.buf) (hframe : frameTime t = frameTime s) (h : TxInRange s) (hphase : s.phase ≠ .txWaitIdle)
    (hmove : TxMove lv s t) (hon : t.phase ≠ .idle) : txBudget t < txBudget s := by
  have hlt := busTime_lt h hphase
  obtain ⟨hphase', htime⟩ | ⟨_, _, _, heq⟩ | ⟨_, _, _, hidle⟩ := h.busTime_move hlegal hparams hbuf hphase hmove
  · rw [txBudget_onBus hphase, txBudget_onBus hphase', hframe]
    omega
  · exact absurd (by rw [heq]; rfl) hon
  · exact absurd hidle hon

/-- What a transmission in flight keeps: its parameters and LEN, which it does not write, and its ranges. -/
structure TxFlight (s : State) : Prop where
  legal : s.params.Legal
  len : 1 ≤ s.len.toNat ∧ s.len.toNat ≤ 12
  range : TxInRange s

theorem TxInRange.buf_tick {s : State} (h : TxInRange s) (lv : Level) : (tickPhase lv s).buf = s.buf := by
  refine tickPhase_buf lv fun hphase => ?_
  have htx := h.isTx
  simp [hphase, Phase.isTx] at htx

theorem TxFlight.frameTime_tick {s : State} (h : TxFlight s) (lv : Level) : frameTime (tickPhase lv s) = frameTime s :=
  frameTime_congr (tickPhase_params lv s) (h.range.buf_tick lv) (tickPhase_len lv s)

/-- One tick of a transmission: it is over, or has fewer ticks left. -/
theorem TxFlight.tick {s : State} (h : TxFlight s) (lv : Level) :
    (tickPhase lv s).busy = false ∨ (TxFlight (tickPhase lv s) ∧ txBudget (tickPhase lv s) < txBudget s) := by
  obtain ⟨_, _, _, heq, _⟩ | ⟨hrange, _⟩ := h.range.tick h.legal h.len lv
  · exact .inl (by rw [heq]; rfl)
  · have hmove := h.range.move lv h.legal h.len
    have hon := Phase.ne_idle_of_isTx hrange.isTx
    refine .inr ⟨⟨by simpa using h.legal, by simpa using h.len, hrange⟩, ?_⟩
    by_cases hphase : s.phase = .txWaitIdle
    · exact h.range.budget_wait (tickPhase_params lv s) (h.frameTime_tick lv) hphase hmove hon
    · exact h.range.budget_onBus h.legal (tickPhase_params lv s) (h.range.buf_tick lv) (h.frameTime_tick lv) hphase hmove hon

/-- The state an accepted TRANSMIT leaves (43_transmitter.md R180). -/
theorem eq_of_exec_transmit {s s1 : State} (hlegal : s.params.Legal) (hidle : s.busy = false) (hmin : 1 ≤ s.len.toNat)
    (hlen : s.len.toNat ≤ 12) (h : exec .transmit s = .next s1) : s1 = launch .txWaitIdle (claim .transmit s) := by
  obtain ⟨_, _, _, hmax, _⟩ := hlegal
  have hlenLegal : lenLegal s = true := (lenLegal_iff s).mpr ⟨hmin, hmax ▸ hlen⟩
  exact (Host.Outcome.next.inj ((execTransmit_legal hidle hlenLegal).symm.trans h)).symm

theorem TxFlight.of_launch {s : State} (hlegal : s.params.Legal) (hlen : 1 ≤ s.len.toNat ∧ s.len.toNat ≤ 12) :
    TxFlight (launch .txWaitIdle (claim .transmit s)) := by
  obtain ⟨hwindows, _, ⟨_, _, _, _, hceil⟩, _⟩ := id hlegal
  exact ⟨hlegal, hlen, .wait rfl hceil.1 (by simp; omega) rfl rfl⟩

/-! ### The short timeout -/

/-- A reception that has waited `k` ticks from its acceptance on, with not enough idle ticks seen to leave WaitIdle. -/
structure WaitedFor (k : Nat) (s : State) : Prop where
  phase : s.phase = .rxWaitIdle
  busy : s.busy = true
  wait : s.waitTmr.toNat = k
  sym : s.symTmr.toNat ≤ k
  bytes : s.bytes = 0#4

/-- Before the timeout, and so before RX_IFS_MIN, the wait goes on at either level. -/
theorem WaitedFor.tick {k : Nat} {s : State} (h : WaitedFor k s) (hlt : k + 1 < (tmo s).toNat)
    (hifs : (tmo s).toNat ≤ s.params.rxIfsMin) (lv : Level) : WaitedFor (k + 1) (tickPhase lv s) := by
  obtain ⟨phase, busy, wait, sym, bytes⟩ := h
  have htmo := (tmo s).isLt
  have hwait : (advance s.waitTmr).toNat = k + 1 := by rw [advance_toNat]; omega
  have hsym : (advance s.symTmr).toNat ≤ k + 1 := by rw [advance_toNat]; omega
  rw [tickPhase_rxWaitIdle lv s phase]
  obtain ⟨hend, _⟩ | ⟨_, _, h⟩ | ⟨_, _, hidle, _⟩ | ⟨_, _, _, h⟩ := rxWaitIdleTick_cases lv (sampleLine s lv)
  · change (tmo s).toNat ≤ (advance s.waitTmr).toNat at hend
    omega
  · rw [h]
    exact ⟨phase, busy, hwait, Nat.zero_le _, bytes⟩
  · change s.params.rxIfsMin ≤ (advance s.symTmr).toNat at hidle
    omega
  · rw [h]
    exact ⟨phase, busy, hwait, hsym, bytes⟩

/-- At the timeout the reception ends with NODATA, whatever is sampled. -/
theorem WaitedFor.ends {k : Nat} {s : State} (h : WaitedFor k s) (hle : (tmo s).toNat ≤ k + 1) (lv : Level) :
    ∃ u, tickPhase lv s = finish .noData .none u ∧ u.bytes = 0#4 := by
  obtain ⟨phase, _, wait, _, bytes⟩ := h
  have htmo := (tmo s).isLt
  have hend : (tmo s).toNat ≤ (advance s.waitTmr).toNat := by rw [advance_toNat]; omega
  rw [tickPhase_rxWaitIdle lv s phase]
  obtain ⟨_, h⟩ | ⟨hlt, _⟩ | ⟨hlt, _⟩ | ⟨hlt, _⟩ := rxWaitIdleTick_cases lv (sampleLine s lv)
  · exact ⟨_, h, bytes⟩
  all_goals exact absurd hend (not_le.mpr hlt)

theorem tickRun_params (lvs : List Level) (s : State) : (tickRun lvs s).params = s.params := by
  induction lvs generalizing s with
  | nil => rfl
  | cons lv lvs ih => rw [tickRun_cons, ih, tickPhase_params]

theorem tickRun_tmo (lvs : List Level) (s : State) : tmo (tickRun lvs s) = tmo s := by
  induction lvs generalizing s with
  | nil => rfl
  | cons lv lvs ih =>
    rw [tickRun_cons, ih]
    simp [tmo]

theorem WaitedFor.run {s : State} {lvs : List Level} (h : WaitedFor 0 s) (hifs : (tmo s).toNat ≤ s.params.rxIfsMin)
    (hlength : lvs.length = max (tmo s).toNat 1) : ∀ k, k < lvs.length → WaitedFor k (tickRun (lvs.take k) s)
  | 0, _ => h
  | k + 1, hk => by
    have hbefore := WaitedFor.run h hifs hlength k (by omega)
    rw [tickRun_take_succ (by omega)]
    exact hbefore.tick (by rw [tickRun_tmo]; omega) (by rwa [tickRun_tmo, tickRun_params]) _

end Sys2Proof.Machine
end

section
/-! The statements on how long an operation lasts, and on the end of contention. -/

open Sys2Proof Sys2Proof.Machine

/-- Settles O53: the budget of the state RECEIVE leaves is the bound. -/
theorem receiveEndsWithinItsBound : Obligations.ReceiveEndsWithinItsBound := by
  intro s s1 lvs hlegal heod hidle hexec bound hlength
  obtain rfl := eq_of_exec_receive hidle hexec
  refine (rxInRange_of_receive s).ends (by exact hlegal) ?_ hlength
  have hsymbol : rxSymbolMax s.params = s.params.rxEodMin - 1 := max_eq_right (by omega)
  rw [rxBudget_wait (.inl rfl)]
  show max (tmo s).toNat 1 - 0 + s.params.rxSofMax + 96 * rxSymbolMax s.params = bound
  rw [hsymbol, tmo_nat]
  rfl

/-- Settles O54: the budget of the state TRANSMIT leaves is at most the bound, since no symbol is longer than TX_LONG. -/
theorem transmitEndsWithinItsBound : Obligations.TransmitEndsWithinItsBound := by
  intro s s1 lvs hlegal hlong hidle hmin hlen hexec p bound hlength
  obtain rfl := eq_of_exec_transmit hlegal hidle hmin hlen hexec
  have hflight := TxFlight.of_launch hlegal ⟨hmin, hlen⟩
  have hsent := sentDur_le (bufRead s) hlong le_rfl (8 * s.len.toNat)
  have hframe : 8 * s.len.toNat * s.params.txLong ≤ 12 * 8 * s.params.txLong := Nat.mul_le_mul_right _ (by omega)
  have hbudget : txBudget (launch .txWaitIdle (claim .transmit s)) ≤ bound := by
    rw [txBudget_wait rfl]
    show s.params.txIdleCeil - 0 + (s.params.txSof + sentDur s.params (bufRead s) (8 * s.len.toNat) + s.params.txEof) ≤
      s.params.txIdleCeil + s.params.txSof + 12 * 8 * s.params.txLong + s.params.txEof
    omega
  obtain ⟨k, hk, hend⟩ :=
    tickRun_ends (I := TxFlight) (fun _ h => txBudget_pos h.range) (fun _ lv h => h.tick lv) lvs hflight
      (hbudget.trans hlength)
  exact ⟨k, hk.trans hbudget, hend⟩

/-- Settles O56: for as long as the timeout has not come, neither have RX_IFS_MIN idle ticks. -/
theorem shortTimeoutAlwaysGivesNoData : Obligations.ShortTimeoutAlwaysGivesNoData := by
  intro s s1 lvs hlegal hifs hidle hexec hlength
  obtain rfl := eq_of_exec_receive hidle hexec
  generalize hs1 : ({ launch .rxWaitIdle (claim .receive s) with shift := 0x00#8, last := .passive } : State) = s1
  rw [← tmo_nat] at hifs hlength
  have hstart : WaitedFor 0 s1 := by subst hs1; exact ⟨rfl, rfl, rfl, le_rfl, rfl⟩
  have htmo : tmo s1 = tmo s := by subst hs1; rfl
  have hparams : s1.params = s.params := by subst hs1; rfl
  rw [← htmo] at hifs hlength
  rw [← hparams] at hifs
  have hrun := hstart.run hifs hlength
  refine ⟨fun k hk => (hrun k hk).busy, ?_⟩
  obtain ⟨k, hk⟩ : ∃ k, lvs.length = k + 1 := ⟨lvs.length - 1, by omega⟩
  obtain ⟨u, hend, hbytes⟩ := (hrun k (by omega)).ends (by rw [tickRun_tmo]; omega) lvs[k]
  rw [← tickRun_take_succ (by omega), ← hk, List.take_length] at hend
  rw [hend]
  exact ⟨rfl, rfl, hbytes⟩

/-- Settles O36: the tick is the contention case, and an idle block stays idle and Passive. -/
theorem contentionStopsDriving : Obligations.ContentionStopsDriving := by
  intro s later hphase hpol hlt t
  have ht : t = finish .busErr .contention (oneTickOn .active s) := by
    have hadv := advance_nat s.symTmr
    show tickPhase .active s = _
    rw [tickPhase_txData .active s hphase]
    obtain ⟨_, _, _, h⟩ | ⟨hend, _⟩ | ⟨hquiet, _⟩ := txDataTick_cases .active (sampleLine s .active)
    · exact h
    · change s.txN.toNat ≤ (advance s.symTmr).toNat at hend
      omega
    · exact absurd hquiet (by simp [hpol])
  have hlater := tickRun_idle later (s := t) (by rw [ht]; rfl)
  rw [ht] at hlater ⊢
  exact ⟨rfl, rfl, rfl, rfl, rfl, rfl, rfl, rfl, hlater.2, hlater.1⟩

end

section
/-! PROOFS. A frame on a bus with no other driver: the block's own time (43_transmitter.md R190), and the receiver that follows
it symbol by symbol (R189, 70_reset_and_hazards.md R298). -/

namespace Sys2Proof.Machine

/-! ### One block alone -/

/-- One tick in which the block samples what it drives. -/
def ownTick (s : State) : State := tickPhase s.drive s

theorem aloneTicks_eq_iterate (n : Nat) (s : State) : aloneTicks n s = ownTick^[n] s := by
  induction n generalizing s with
  | zero => rfl
  | succ n ih => rw [aloneTicks, busLevel_alone, ih, Function.iterate_succ_apply, ownTick]

/-- What a transmission does not write, and BUSY, as in the state `x` it came from. -/
structure SameFrame (x s : State) : Prop where
  params : s.params = x.params
  buf : s.buf = x.buf
  len : s.len = x.len
  busy : s.busy = x.busy

theorem SameFrame.refl (x : State) : SameFrame x x := ⟨rfl, rfl, rfl, rfl⟩

theorem SameFrame.frameTime {x s : State} (h : SameFrame x s) : frameTime s = frameTime x :=
  frameTime_congr h.params h.buf h.len

theorem SameFrame.bufRead {x s : State} (h : SameFrame x s) : bufRead s = bufRead x := funext (bufRead_congr h.buf)

theorem SameFrame.tick {x s : State} (h : SameFrame x s) (hrange : TxInRange s) {lv : Level}
    (hon : (tickPhase lv s).phase ≠ .idle) : SameFrame x (tickPhase lv s) := by
  refine ⟨(tickPhase_params lv s).trans h.params, (hrange.buf_tick lv).trans h.buf, (tickPhase_len lv s).trans h.len, ?_⟩
  obtain ⟨_, _, _, hidle, _⟩ | ⟨hbusy, _⟩ := tickPhase_status (s := s) lv
  · exact absurd hidle hon
  · exact hbusy.trans h.busy

/-- The block has sent the frame of `x` for `m` ticks, and drives what its phase asks for. -/
structure OnBus (x : State) (m : Nat) (s : State) : Prop where
  same : SameFrame x s
  range : TxInRange s
  notWaiting : s.phase ≠ .txWaitIdle
  drive : s.drive = expectedDrive s
  time : busTime s = m

/-- The block has waited `m` idle ticks for the bus, from its acceptance on. -/
structure WaitsIdle (x : State) (m : Nat) (s : State) : Prop where
  same : SameFrame x s
  phase : s.phase = .txWaitIdle
  drive : s.drive = .passive
  wait : s.waitTmr.toNat = m
  sym : s.symTmr.toNat = m
  bytes : s.bytes = 0#4
  bits : s.bits = 0#3

/-- A legal parameter set, and a frame of 1 to 12 bytes. -/
structure Sendable (x : State) : Prop where
  legal : x.params.Legal
  len : 1 ≤ x.len.toNat ∧ x.len.toNat ≤ 12

section

variable {x s : State} {m : Nat}

theorem OnBus.move (hx : Sendable x) (h : OnBus x m s) : TxMove s.drive s (ownTick s) :=
  h.range.move s.drive (by rw [h.same.params]; exact hx.legal) (by rw [h.same.len]; exact hx.len)

/-- Alone the block meets no contention: a tick adds one to its time, or ends the frame at its time. -/
theorem OnBus.cases (hx : Sendable x) (h : OnBus x m s) :
    OnBus x (m + 1) (ownTick s) ∨
      (m + 1 = frameTime x ∧ s.phase = .txEof ∧ s.symTmr.toNat + 1 = x.params.txEof ∧
        ownTick s = finish .ok .none (oneTickOn s.drive s)) := by
  have hlegal : s.params.Legal := by rw [h.same.params]; exact hx.legal
  have hlen : 1 ≤ s.len.toNat ∧ s.len.toNat ≤ 12 := by rw [h.same.len]; exact hx.len
  have hparams : (ownTick s).params = s.params := tickPhase_params _ _
  have htime := h.time
  obtain ⟨hphase, hnext⟩ | ⟨hend, heof, hfull, heq⟩ | ⟨hpol, hactive, hdata, _⟩ :=
    h.range.busTime_move hlegal hparams (h.range.buf_tick _) h.notWaiting (h.move hx)
  · obtain ⟨_, _, _, heq, _⟩ | ⟨hrange, hdrive⟩ := h.range.tick hlegal hlen s.drive
    · change ownTick s = _ at heq
      rw [heq] at hnext
      exact absurd hnext (Nat.succ_ne_zero _).symm
    · exact .inl ⟨h.same.tick h.range (Phase.ne_idle_of_isTx hrange.isTx), hrange, hphase, hdrive h.drive,
        hnext.trans (congrArg (· + 1) htime)⟩
  · rw [htime, h.same.frameTime] at hend
    rw [h.same.params] at hfull
    exact .inr ⟨hend, heof, hfull, heq⟩
  · have hdrive := h.drive
    rw [hactive, expectedDrive_data hdata, hpol] at hdrive
    cases hdrive

/-- At time 0 the SOF begins, and the state is the one its frame is counted from. -/
theorem OnBus.restart (h : OnBus x 0 s) : OnBus s 0 s := ⟨.refl s, h.range, h.notWaiting, h.drive, h.time⟩

theorem OnBus.lt (h : OnBus x m s) : m < frameTime x := by
  have hlt := busTime_lt h.range h.notWaiting
  rwa [h.time, h.same.frameTime] at hlt

theorem OnBus.tick (hx : Sendable x) (h : OnBus x m s) (hlt : m + 1 < frameTime x) : OnBus x (m + 1) (ownTick s) :=
  (h.cases hx).resolve_right fun hend => hlt.ne hend.1

theorem OnBus.ends (hx : Sendable x) (h : OnBus x m s) (hend : m + 1 = frameTime x) :
    s.phase = .txEof ∧ s.symTmr.toNat + 1 = x.params.txEof ∧
      ownTick s = finish .ok .none (oneTickOn s.drive s) :=
  ((h.cases hx).resolve_left fun hon => hon.lt.ne hend).2

/-- In the EOF the whole frame has been sent. -/
theorem OnBus.sent (h : OnBus x m s) (heof : s.phase = .txEof) : s.bytes.toNat = x.len.toNat := by
  rw [(h.range.inEof heof).1, h.same.len]

theorem OnBus.run (hx : Sendable x) (h : OnBus x 0 s) : ∀ m, m < frameTime x → OnBus x m (ownTick^[m] s)
  | 0, _ => h
  | m + 1, hm => by
    rw [Function.iterate_succ_apply']
    exact (OnBus.run hx h m (by omega)).tick hx hm

theorem WaitsIdle.tick (hx : Sendable x) (hceil : x.params.rxIfsMin ≤ x.params.txIdleCeil) (h : WaitsIdle x m s)
    (hlt : m + 1 < x.params.rxIfsMin) : WaitsIdle x (m + 1) (tickPhase .passive s) := by
  obtain ⟨⟨hwindows, _⟩, _⟩ := hx
  obtain ⟨same, phase, drive, wait, sym, bytes, bits⟩ := h
  have hsym : (advance s.symTmr).toNat = m + 1 := (advance_toNat_of_lt (by omega)).trans (congrArg (· + 1) sym)
  have hwait : (advance s.waitTmr).toNat = m + 1 := (advance_toNat_of_lt (by omega)).trans (congrArg (· + 1) wait)
  rw [tickPhase_txWaitIdle .passive s phase]
  obtain ⟨_, hidle, _⟩ | ⟨_, hend, _⟩ | ⟨_, _, h⟩ := txWaitIdleTick_cases .passive (sampleLine s .passive)
  · change s.params.rxIfsMin ≤ (advance s.symTmr).toNat at hidle
    rw [same.params] at hidle
    omega
  · change s.params.txIdleCeil ≤ (advance s.waitTmr).toNat at hend
    rw [same.params] at hend
    omega
  · rw [h]
    exact ⟨⟨same.params, same.buf, same.len, same.busy⟩, phase, drive, hwait, hsym, bytes, bits⟩

theorem WaitsIdle.beginsSof (hx : Sendable x) (h : WaitsIdle x m s) (hend : m + 1 = x.params.rxIfsMin) :
    OnBus x 0 (tickPhase .passive s) ∧ (tickPhase .passive s).phase = .txSof := by
  obtain ⟨⟨hwindows, _, ⟨_, _, hsof, _⟩, _⟩, _⟩ := hx
  obtain ⟨same, phase, drive, wait, sym, bytes, bits⟩ := h
  have hsym : (advance s.symTmr).toNat = m + 1 := (advance_toNat_of_lt (by omega)).trans (congrArg (· + 1) sym)
  have hidle : s.params.rxIfsMin ≤ (advance s.symTmr).toNat := by rw [same.params, hsym, hend]
  rw [tickPhase_txWaitIdle .passive s phase]
  obtain ⟨_, _, h⟩ | ⟨hnot, _⟩ | ⟨hnot, _⟩ := txWaitIdleTick_cases .passive (sampleLine s .passive)
  · rw [h]
    refine ⟨⟨⟨same.params, same.buf, same.len, same.busy⟩, .sof rfl ?_ bytes bits, by simp, rfl, rfl⟩, rfl⟩
    show 0 < s.params.txSof
    rw [same.params]
    exact hsof.1
  all_goals exact absurd (hnot.resolve_left (by decide)) (not_lt.mpr hidle)

theorem waitsIdle_launch (hdrive : x.drive = .passive) :
    WaitsIdle (launch .txWaitIdle (claim .transmit x)) 0 (launch .txWaitIdle (claim .transmit x)) :=
  ⟨.refl _, rfl, hdrive, rfl, rfl, rfl, rfl⟩

theorem WaitsIdle.run (hx : Sendable x) (hceil : x.params.rxIfsMin ≤ x.params.txIdleCeil) (h : WaitsIdle x 0 s) :
    ∀ m, m < x.params.rxIfsMin → WaitsIdle x m (ownTick^[m] s)
  | 0, _ => h
  | m + 1, hm => by
    have hbefore := WaitsIdle.run hx hceil h m (by omega)
    rw [Function.iterate_succ_apply', ownTick, hbefore.drive]
    exact hbefore.tick hx hceil hm

/-- After RX_IFS_MIN idle ticks the block begins its SOF. -/
theorem WaitsIdle.run_sof (hx : Sendable x) (hceil : x.params.rxIfsMin ≤ x.params.txIdleCeil) (h : WaitsIdle x 0 s) :
    OnBus x 0 (ownTick^[x.params.rxIfsMin] s) ∧ (ownTick^[x.params.rxIfsMin] s).phase = .txSof := by
  obtain ⟨m, hm⟩ : ∃ m, x.params.rxIfsMin = m + 1 := by
    obtain ⟨⟨hwindows, _⟩, _⟩ := hx
    exact ⟨x.params.rxIfsMin - 1, by omega⟩
  have hbefore := h.run hx hceil m (by omega)
  rw [hm, Function.iterate_succ_apply', ownTick, hbefore.drive]
  exact hbefore.beginsSof hx hm.symm

end

end Sys2Proof.Machine
end

section
/-! The statement of 43_transmitter.md on a block alone. -/

open Sys2Proof Sys2Proof.Machine

/-- Settles O55: RX_IFS_MIN ticks of waiting, then the frame's time, in both of which BUSY stays. -/
theorem transmitOnAnIdleBusTakesExactlyItsTime : Obligations.TransmitOnAnIdleBusTakesExactlyItsTime := by
  intro s s1 hlegal hceil hidle hdrive hmin hlen hexec n
  have hs1 := eq_of_exec_transmit hlegal hidle hmin hlen hexec
  have hx : Sendable s1 := by subst hs1; exact ⟨hlegal, hmin, hlen⟩
  have hstart : WaitsIdle s1 0 s1 := by subst hs1; exact waitsIdle_launch hdrive
  have hceil1 : s1.params.rxIfsMin ≤ s1.params.txIdleCeil := by subst hs1; exact hceil
  have hbusy : s1.busy = true := by subst hs1; rfl
  have hlen1 : s1.len = s.len := by subst hs1; rfl
  have hn : n = s1.params.rxIfsMin + frameTime s1 := by
    subst hs1
    show s.params.rxIfsMin + s.params.txSof + frameDur s.params (bufRead s) s.len.toNat + s.params.txEof =
      s.params.rxIfsMin + (s.params.txSof + sentDur s.params (bufRead s) (8 * s.len.toNat) + s.params.txEof)
    rw [frameDur_eq]
    omega
  have hwait := hstart.run hx hceil1
  have hsof := (hstart.run_sof hx hceil1).1
  have hsend := hsof.run hx
  simp only [aloneTicks_eq_iterate]
  constructor
  · intro m hm
    obtain hm | ⟨j, rfl⟩ : m < s1.params.rxIfsMin ∨ ∃ j, m = j + s1.params.rxIfsMin :=
      (lt_or_ge m _).imp_right fun hle => ⟨m - s1.params.rxIfsMin, by omega⟩
    · exact (hwait m hm).same.busy.trans hbusy
    · rw [Function.iterate_add_apply]
      exact (hsend j (by omega)).same.busy.trans hbusy
  · obtain ⟨j, hj⟩ := Nat.exists_eq_add_one_of_ne_zero hsof.lt.ne'
    have hlast := hsend j (by omega)
    obtain ⟨heof, _, hend⟩ := hlast.ends hx hj.symm
    rw [hn, hj, Nat.add_comm, Function.iterate_add_apply, Function.iterate_succ_apply', hend]
    exact ⟨rfl, rfl, rfl, (hlast.sent heof).trans (congrArg BitVec.toNat hlen1)⟩

end

section
/-! PROOFS. Two blocks on one bus: a receiver that follows a frame symbol by symbol (43_transmitter.md R189,
70_reset_and_hazards.md R298). -/

namespace Sys2Proof.Machine

/-! ### The pair of two blocks -/

/-- One tick of two blocks that share a bus with no other driver. -/
def pairTick (q : State × State) : State × State :=
  (tickPhase (netLine .passive [q.1, q.2]) q.1, tickPhase (netLine .passive [q.1, q.2]) q.2)

theorem netTicks_pair (n : Nat) (q : State × State) :
    netTicks n [q.1, q.2] = [(pairTick^[n] q).1, (pairTick^[n] q).2] := by
  induction n generalizing q with
  | zero => rfl
  | succ n ih => rw [netTicks, Function.iterate_succ_apply, ← ih]; rfl

/-- While the other block is Passive the line is what the first one drives. -/
theorem netLine_left {x y : State} (h : y.drive = .passive) : netLine .passive [x, y] = x.drive := by
  unfold netLine
  rw [List.map_cons, List.map_cons, List.map_nil, h]
  cases x.drive <;> rfl

theorem pairTick_left {x y : State} (h : y.drive = .passive) : pairTick (x, y) = (ownTick x, tickPhase x.drive y) := by
  rw [pairTick, netLine_left h]
  rfl

/-! ### What a receiver holds of a frame -/

/-- The receiver `y` has taken the first `k` bits of the frame `byteAt`: whole bytes in BUF, the rest in SHIFT. -/
structure Holds (byteAt : Nat → Byte) (k : Nat) (y : State) : Prop where
  count : bitCount y = k
  wf : Memory.wf y.buf = true
  stored : ∀ i, i < y.bytes.toNat → bufRead y i = byteAt i
  shifted : ∀ i, i < y.bits.toNat → y.shift.getLsbD i = (byteAt y.bytes.toNat).getLsbD (8 - y.bits.toNat + i)

/-- A bit enters SHIFT at bit 0, and each bit moves up by one. -/
theorem shiftIn_getLsbD (v : Byte) (b : Bool) (i : Nat) (hi : i < 8) :
    (shiftIn v b).getLsbD i = if i = 0 then b else v.getLsbD (i - 1) := by
  have hbit : (zextBit b).getLsbD i = (decide (i = 0) && b) := by
    cases b <;> simp [zextBit]
  rw [shiftIn, BitVec.getLsbD_or, BitVec.getLsbD_shiftLeft, hbit]
  split
  · next h => simp [h]
  · next h => simp [h, hi]

section

variable {byteAt : Nat → Byte} {k : Nat} {y : State}

/-- SHIFT after the next bit of the frame. -/
theorem Holds.shifted_next (h : Holds byteAt k y) (i : Nat) (hi : i < y.bits.toNat + 1) :
    (shiftIn y.shift (symBit byteAt k)).getLsbD i = (byteAt y.bytes.toNat).getLsbD (8 - (y.bits.toNat + 1) + i) := by
  have hbits := bits_le y
  rw [shiftIn_getLsbD _ _ _ (by omega), ← h.count, symBit, bitCount_div, bitCount_mod]
  split
  · next hzero => rw [hzero]; congr 1; omega
  · next hpos => rw [h.shifted (i - 1) (by omega)]; congr 1; omega

/-- The receiver that takes the next bit of the frame holds one bit more. -/
theorem Holds.accumulate (h : Holds byteAt k y) (hk : k < 96) : Holds byteAt (k + 1) (accumulate (symBit byteAt k) y) := by
  have hcount := h.count
  have hbits := bits_le y
  have hroom : y.bytes.toNat < 12 := by unfold bitCount at hcount; omega
  have hnext := (bitCount_accumulate (symBit byteAt k) hroom).trans (congrArg (· + 1) hcount)
  obtain hinside | heighth := bits_lt_or_eq y
  · rw [accumulate_of_lt _ hinside] at hnext ⊢
    refine ⟨hnext, h.wf, h.stored, fun i hi => ?_⟩
    simp only [bits_succ_toNat hinside] at hi ⊢
    exact h.shifted_next i hi
  · have hbyte : shiftIn y.shift (symBit byteAt k) = byteAt y.bytes.toNat := by
      refine BitVec.eq_of_getLsbD_eq fun i hi => ?_
      rw [h.shifted_next i (by omega), heighth, Nat.sub_self, Nat.zero_add]
    have hbytes := bytes_succ_toNat (s := y) (by omega)
    have hread := bufRead_accumulate_of_eq (symBit byteAt k) h.wf hroom heighth
    rw [accumulate_of_eq _ heighth] at hnext hread ⊢
    refine ⟨hnext, bufWrite_wf y _ _ h.wf, fun i hi => ?_, fun i hi => absurd hi (Nat.not_lt_zero i)⟩
    simp only [hbytes] at hi
    rw [hread i]
    split
    · next heq => rw [heq, hbyte]
    · next hne => exact h.stored i (by omega)

theorem Holds.congr {t : State} (h : Holds byteAt k y)
    (e : t.bytes = y.bytes ∧ t.bits = y.bits ∧ t.buf = y.buf ∧ t.shift = y.shift) : Holds byteAt k t := by
  obtain ⟨hbytes, hbits, hbuf, hshift⟩ := e
  obtain ⟨count, wf, stored, shifted⟩ := h
  refine ⟨by rw [bitCount, hbytes, hbits]; exact count, by rwa [hbuf], ?_, ?_⟩
  · rw [hbytes]
    exact fun i hi => (bufRead_congr hbuf i).trans (stored i hi)
  · rwa [hbytes, hbits, hshift]

end

/-! ### The receiver, piece by piece of the frame -/

/-- The receiver has sampled the SOF `d` times. -/
structure InSofPulse (d : Nat) (y : State) : Prop where
  phase : y.phase = .rxSof
  drive : y.drive = .passive
  sym : y.symTmr.toNat = d
  bytes : y.bytes = 0#4
  bits : y.bits = 0#3
  wf : Memory.wf y.buf = true

/-- The receiver holds `k` bits and has sampled what follows them `d` times, at the level `pol`. -/
structure InSymbol (byteAt : Nat → Byte) (k : Nat) (pol : Level) (d : Nat) (y : State) : Prop where
  phase : y.phase = .rxData
  drive : y.drive = .passive
  last : y.last = pol
  sym : y.symTmr.toNat = d
  holds : Holds byteAt k y

/-- The receiver has ended with OK and the `n` bytes of the frame. -/
structure Received (byteAt : Nat → Byte) (n : Nat) (y : State) : Prop where
  phase : y.phase = .idle
  drive : y.drive = .passive
  busy : y.busy = false
  done : y.done = true
  result : y.result = .ok
  bytes : y.bytes.toNat = n
  stored : ∀ i, i < n → bufRead y i = byteAt i

/-- A receiver that holds whole bytes ends with them. -/
theorem Holds.received {byteAt : Nat → Byte} {n : Nat} {y : State} (h : Holds byteAt (8 * n) y) :
    Received byteAt n (finish .ok .none y) := by
  have hbytes : y.bytes.toNat = n := by rw [← bitCount_div, h.count]; omega
  exact ⟨rfl, rfl, rfl, rfl, rfl, hbytes, fun i hi => h.stored i (hbytes ▸ hi)⟩

section

variable {byteAt : Nat → Byte} {k n d : Nat} {pol : Level} {y : State}

theorem inSofPulse_first (hphase : y.phase = .rxWaitSof) (hdrive : y.drive = .passive) (hbytes : y.bytes = 0#4)
    (hbits : y.bits = 0#3) (hwf : Memory.wf y.buf = true) : InSofPulse 1 (tickPhase .active y) := by
  rw [tickPhase_rxWaitSof .active y hphase]
  obtain ⟨_, h⟩ | ⟨hlv, _⟩ | ⟨hlv, _⟩ := rxWaitSofTick_cases .active (sampleLine y .active)
  · rw [h]
    exact ⟨rfl, hdrive, rfl, hbytes, hbits, hwf⟩
  all_goals cases hlv

theorem InSofPulse.goesOn (hlegal : y.params.Legal) (h : InSofPulse d y) (hmax : d + 1 ≤ y.params.rxSofMax) :
    InSofPulse (d + 1) (tickPhase .active y) := by
  obtain ⟨_, ⟨_, _, hsof⟩, _⟩ := hlegal
  obtain ⟨phase, drive, sym, bytes, bits, wf⟩ := h
  have hadv : (advance y.symTmr).toNat = d + 1 := (advance_toNat_of_lt (by omega)).trans (congrArg (· + 1) sym)
  rw [tickPhase_rxSof .active y phase]
  obtain ⟨_, hlong, _⟩ | ⟨_, _, h⟩ | ⟨hlv, _⟩ | ⟨hlv, _⟩ := rxSofTick_cases .active (sampleLine y .active)
  · change y.params.rxSofMax < (advance y.symTmr).toNat at hlong
    omega
  · rw [h]
    exact ⟨phase, drive, hadv, bytes, bits, wf⟩
  all_goals cases hlv

theorem InSofPulse.ends (h : InSofPulse d y) (hmin : y.params.rxSofMin ≤ d) :
    InSymbol byteAt 0 .passive 1 (tickPhase .passive y) := by
  obtain ⟨phase, drive, sym, bytes, bits, wf⟩ := h
  rw [tickPhase_rxSof .passive y phase]
  obtain ⟨hlv, _⟩ | ⟨hlv, _⟩ | ⟨_, hshort, _⟩ | ⟨_, _, h⟩ := rxSofTick_cases .passive (sampleLine y .passive)
  · cases hlv
  · cases hlv
  · change y.symTmr.toNat < y.params.rxSofMin at hshort
    omega
  · rw [h]
    refine ⟨rfl, drive, rfl, rfl, ⟨?_, wf, fun i hi => ?_, fun i hi => ?_⟩⟩
    · simp [bitCount, bytes, bits]
    · simp [bytes] at hi
    · simp [bits] at hi

/-- The run goes on; in the EOD window it ends the frame, which then is whole. -/
theorem InSymbol.goesOn (hlegal : y.params.Legal) (h : InSymbol byteAt k pol d y) (hd : d < y.params.rxEodMin)
    (hwhole : y.params.rxEodMin ≤ d + 1 → k = 8 * n) :
    (d + 1 < y.params.rxEodMin ∧ InSymbol byteAt k pol (d + 1) (tickPhase pol y)) ∨
      (y.params.rxEodMin ≤ d + 1 ∧ Received byteAt n (tickPhase pol y)) := by
  obtain ⟨hwindows, _⟩ := hlegal
  obtain ⟨phase, drive, last, sym, holds⟩ := h
  have hadv : (advance y.symTmr).toNat = d + 1 := (advance_toNat_of_lt (by omega)).trans (congrArg (· + 1) sym)
  rw [tickPhase_hold phase last.symm]
  obtain ⟨hend, h⟩ | ⟨hlt, h⟩ := rxHoldTick_cases (sampleLine y pol)
  · change y.params.rxEodMin ≤ (advance y.symTmr).toNat at hend
    rw [hwhole (by omega)] at holds
    rw [h]
    exact .inr ⟨by omega, Holds.received (holds.congr ⟨rfl, rfl, rfl, rfl⟩)⟩
  · change (advance y.symTmr).toNat < y.params.rxEodMin at hlt
    rw [h]
    exact .inl ⟨by omega, phase, drive, last, hadv, holds.congr ⟨rfl, rfl, rfl, rfl⟩⟩

/-- A symbol without an error is taken as its bit (42_receiver.md R155). -/
theorem tickPhase_bit {lv : Level} {r : SymbolDecision} (hmax : y.params.maxBytes = 12) (hphase : y.phase = .rxData)
    (hlast : lv ≠ y.last) (hroom : y.bytes.toNat < 12) (hr : decodeSymbol y.params y.symTmr y.last y.strict = r)
    (hok : r.berr = false) : tickPhase lv y = afterBit lv r.bit (sampleLine y lv) :=
  (tickPhase_transition hphase hlast).trans (rxTransitionTick_of_bit (s := sampleLine y lv) lv hr hmax hroom hok)

/-- A symbol of the frame that has had its length is taken as its bit; the last bit of twelve bytes ends the frame. -/
theorem InSymbol.ends (hlegal : y.params.Legal) (hsafe : y.params.RoundTripSafe)
    (h : InSymbol byteAt k (symPol k) (symDur y.params byteAt k) y) (hk : k < 96) :
    (k + 1 < 96 ∧ InSymbol byteAt (k + 1) (symPol (k + 1)) 1 (tickPhase (symPol (k + 1)) y)) ∨
      (k + 1 = 8 * 12 ∧ Received byteAt 12 (tickPhase (symPol (k + 1)) y)) := by
  obtain ⟨phase, drive, last, sym, holds⟩ := h
  have hchange : symPol (k + 1) ≠ y.last := by
    rw [last, symPol_succ]
    cases symPol k <;> decide
  have hsym : y.symTmr = BitVec.ofNat 16 (symbolDur y.params (symBit byteAt k) (symPol k)) :=
    BitVec.eq_of_toNat_eq (sym.trans (symbolDur_toNat hlegal _ _).symm)
  obtain ⟨hbit, hok⟩ := decodeSymbol_symbolDur hlegal hsafe (symBit byteAt k) (symPol k) y.strict
  have hcount := holds.count
  have hroom : y.bytes.toNat < 12 := by unfold bitCount at hcount; omega
  have hlast : y.bytes.toNat = 11 ∧ y.bits.toNat = 7 ↔ k + 1 = 96 := by
    have hbits := bits_le y
    unfold bitCount at hcount
    omega
  have hmax : y.params.maxBytes = 12 := by
    obtain ⟨_, _, _, hmax, _⟩ := hlegal
    exact hmax
  rw [← hsym, ← last] at hbit hok
  rw [tickPhase_bit hmax phase hchange hroom rfl hok, hbit, afterBit]
  have hnext : Holds byteAt (k + 1) (accumulate (symBit byteAt k) (sampleLine y (symPol (k + 1)))) :=
    Holds.accumulate (holds.congr ⟨rfl, rfl, rfl, rfl⟩) hk
  have hholds : Holds byteAt (k + 1)
      { accumulate (symBit byteAt k) (sampleLine y (symPol (k + 1))) with last := symPol (k + 1), symTmr := 1#16 } :=
    hnext.congr ⟨rfl, rfl, rfl, rfl⟩
  split
  · next hend =>
    have hfull := hlast.mp hend
    rw [hfull] at hholds ⊢
    exact .inr ⟨rfl, Holds.received (n := 12) hholds⟩
  · next hmore => exact .inl ⟨lt_of_le_of_ne hk fun hend => hmore (hlast.mpr hend), by simp [phase], by simp [drive], rfl, rfl, hholds⟩

theorem Received.tick (h : Received byteAt n y) (lv : Level) : Received byteAt n (tickPhase lv y) := by
  rw [tickPhase_idle lv y h.phase]
  exact ⟨h.phase, h.drive, h.busy, h.done, h.result, h.bytes, h.stored⟩

end

/-! ### The receiver follows the transmitter -/

/-- The receiver `y` has sampled the SOF, symbol or EOF that the transmitter `s` drives `d` times, and has taken what came
before it; in the EOF it may have ended. The frame is `n` bytes of `byteAt`. -/
inductive Follows (byteAt : Nat → Byte) (n : Nat) (s : State) (d : Nat) (y : State) : Prop
  | sof (phase : s.phase = .txSof) (pulse : InSofPulse d y)
  | symbol (phase : s.phase = .txData ∨ s.phase = .txEof) (short : d < y.params.rxEodMin)
      (symbol : InSymbol byteAt (bitCount s) s.drive d y)
  | ended (phase : s.phase = .txEof) (received : Received byteAt n y)

theorem Follows.drive {byteAt : Nat → Byte} {n d : Nat} {s y : State} (h : Follows byteAt n s d y) :
    y.drive = .passive := by
  cases h with
  | sof _ pulse => exact pulse.drive
  | symbol _ _ symbol => exact symbol.drive
  | ended _ received => exact received.drive

theorem Follows.congr {byteAt : Nat → Byte} {n d : Nat} {s t y : State} (h : Follows byteAt n s d y)
    (hphase : t.phase = s.phase) (hcount : bitCount t = bitCount s) (hdrive : t.drive = s.drive) :
    Follows byteAt n t d y := by
  cases h with
  | sof phase pulse => exact .sof (hphase.trans phase) pulse
  | symbol phase short symbol => exact .symbol (by rwa [hphase]) short (by rwa [hcount, hdrive])
  | ended phase received => exact .ended (hphase.trans phase) received

/-- A legal, round-trip-safe set keeps every data symbol, and one more tick, out of the EOD window. -/
theorem symDur_lt {p : Params} (hlegal : p.Legal) (hsafe : p.RoundTripSafe) (byteAt : Nat → Byte) (k : Nat) :
    symDur p byteAt k < p.rxEodMin ∧ 1 < p.rxEodMin := by
  obtain ⟨hwindows, _⟩ := hlegal
  obtain ⟨hshort, hlong, _⟩ := hsafe
  have hlt : symDur p byteAt k < p.rxEodMin := by
    unfold symDur symbolDur
    split <;> omega
  omega

section

variable {x s y : State} {m d : Nat}

/-- While the transmitter's SOF, symbol or EOF goes on, so does its receiver. -/
theorem Follows.goesOn (hlegal : x.params.Legal) (hsafe : x.params.RoundTripSafe) (hy : y.params = x.params)
    (hs : OnBus x m s) (h : Follows (bufRead x) x.len.toNat s d y) (hlt : d + 1 ≤ pieceLength s) :
    Follows (bufRead x) x.len.toNat s (d + 1) (tickPhase s.drive y) := by
  have hdrive := hs.drive
  cases h with
  | sof phase pulse =>
    obtain ⟨_, _, ⟨_, hmax⟩, _⟩ := hsafe
    rw [pieceLength_sof phase, hs.same.params] at hlt
    rw [hdrive, expectedDrive_sof phase]
    exact .sof phase (pulse.goesOn (by rwa [hy]) (by rw [hy]; omega))
  | symbol phase short symbol =>
    have hwhole : y.params.rxEodMin ≤ d + 1 → s.phase = .txEof ∧ bitCount s = 8 * x.len.toNat := by
      intro heod
      obtain hdata | heof := phase
      · have hlength := (symbolInFlight_iff.mp (hs.range.inData hdata).2).2
        have hshort := (symDur_lt hlegal hsafe (bufRead x) (bitCount s)).1
        rw [hs.same.params, hs.same.bufRead] at hlength
        rw [pieceLength_data hdata] at hlt
        rw [hy] at heod
        omega
      · obtain ⟨hsent, hbits⟩ := hs.range.inEof heof
        rw [hs.same.len] at hsent
        exact ⟨heof, by simp [bitCount, hsent, hbits]⟩
    obtain ⟨hshort, hsymbol⟩ | ⟨heod, hended⟩ := symbol.goesOn (by rwa [hy]) short fun heod => (hwhole heod).2
    · exact .symbol phase (by rwa [tickPhase_params]) hsymbol
    · exact .ended (hwhole heod).1 hended
  | ended phase received => exact .ended phase (received.tick _)

/-- When the SOF is over its receiver waits for the first symbol to end. -/
theorem Follows.firstSymbol {t : State} (hlegal : x.params.Legal) (hsafe : x.params.RoundTripSafe)
    (hy : y.params = x.params) (h : Follows (bufRead x) x.len.toNat s x.params.txSof y) (hs : s.phase = .txSof)
    (ht : t.phase = .txData) (hcount : bitCount t = 0) (hdrive : t.drive = .passive) :
    Follows (bufRead x) x.len.toNat t 1 (tickPhase t.drive y) := by
  have hshort := (symDur_lt hlegal hsafe (bufRead x) 0).2
  obtain ⟨_, _, ⟨hmin, _⟩, _⟩ := hsafe
  cases h with
  | sof _ pulse =>
    refine .symbol (.inl ht) (by rwa [tickPhase_params, hy]) ?_
    rw [hcount, hdrive]
    exact pulse.ends (by rwa [hy])
  | symbol phase => simp [hs] at phase
  | ended phase => simp [hs] at phase

/-- When a symbol is over its receiver takes its bit and waits for what follows it to end. -/
theorem Follows.nextSymbol {t : State} (hlegal : x.params.Legal) (hsafe : x.params.RoundTripSafe)
    (hy : y.params = x.params) (h : Follows (bufRead x) x.len.toNat s (symDur x.params (bufRead x) (bitCount s)) y)
    (hs : s.phase = .txData) (hpol : s.drive = symPol (bitCount s)) (ht : t.phase = .txData ∨ t.phase = .txEof)
    (hcount : bitCount t = bitCount s + 1) (hdrive : t.drive = symPol (bitCount t)) (hlen : x.len.toNat ≤ 12)
    (hle : bitCount t ≤ 8 * x.len.toNat) (heof : bitCount t = 8 * x.len.toNat → t.phase = .txEof) :
    Follows (bufRead x) x.len.toNat t 1 (tickPhase t.drive y) := by
  have hshort := (symDur_lt hlegal hsafe (bufRead x) 0).2
  cases h with
  | sof phase => simp [hs] at phase
  | ended phase => simp [hs] at phase
  | symbol _ _ symbol =>
    rw [hpol, ← hy] at symbol
    rw [hcount] at hdrive hle heof
    rw [hdrive]
    obtain ⟨_, hsymbol⟩ | ⟨hend, hreceived⟩ := symbol.ends (by rwa [hy]) (by rwa [hy]) (by omega)
    · exact .symbol ht (by rwa [tickPhase_params, hy]) (by rwa [hcount, hdrive])
    · have htwelve : x.len.toNat = 12 := by omega
      rw [htwelve] at heof ⊢
      exact .ended (heof hend) hreceived

/-- One tick of both: the receiver samples what the transmitter drives after its own tick. -/
theorem Follows.tick (hx : Sendable x) (hsafe : x.params.RoundTripSafe) (hy : y.params = x.params) (hs : OnBus x m s)
    (ht : OnBus x (m + 1) (ownTick s)) (h : Follows (bufRead x) x.len.toNat s (s.symTmr.toNat + 1) y) :
    Follows (bufRead x) x.len.toNat (ownTick s) ((ownTick s).symTmr.toNat + 1) (tickPhase (ownTick s).drive y) := by
  have hmove := hs.move hx
  have hlegal : s.params.Legal := by rw [hs.same.params]; exact hx.legal
  have hfirst : s.phase = .txSof → s.symTmr.toNat + 1 = pieceLength s → bitCount s = 0 ∧ s.symTmr.toNat + 1 = x.params.txSof := by
    intro hphase hfull
    obtain ⟨hbytes, hbits⟩ := hs.range.inSof hphase
    exact ⟨by simp [bitCount, hbytes, hbits], by rw [hfull, pieceLength_sof hphase, hs.same.params]⟩
  have hnext : s.phase = .txData → s.symTmr.toNat + 1 = pieceLength s →
      s.drive = symPol (bitCount s) ∧ s.symTmr.toNat + 1 = symDur x.params (bufRead x) (bitCount s) := by
    intro hphase hfull
    obtain ⟨hpol, hlength⟩ := symbolInFlight_iff.mp (hs.range.inData hphase).2
    rw [hs.same.params, hs.same.bufRead] at hlength
    exact ⟨by rw [hs.drive, expectedDrive_data hphase, hpol], by rw [hfull, pieceLength_data hphase, hlength]⟩
  generalize ownTick s = t at *
  cases hmove with
  | waits before | timesOut before | beginsSof before => exact absurd before hs.notWaiting
  | ends before full eq => exact absurd (by rw [eq]; rfl) (Phase.ne_idle_of_isTx ht.range.isTx)
  | contends before active passive lt eq => exact absurd (by rw [eq]; rfl) (Phase.ne_idle_of_isTx ht.range.isTx)
  | goesOn before lt eq =>
    have hsym := oneTickOn_sym hlegal s.drive lt
    subst eq
    rw [hsym]
    exact Follows.goesOn hx.legal hsafe hy ht (h.congr rfl rfl rfl) lt
  | firstSymbol before full phase drive sym symbol count =>
    obtain ⟨hzero, hlength⟩ := hfirst before full
    rw [hlength] at h
    rw [hzero] at count
    rw [sym]
    refine h.firstSymbol hx.legal hsafe hy before phase count ?_
    rw [drive, (symbolInFlight_iff.mp symbol).1, count]
    rfl
  | nextSymbol before full phase drive sym symbol count more =>
    obtain ⟨hpol, hlength⟩ := hnext before full
    have hbits := t.bits.isLt
    rw [hs.same.len] at more
    rw [hlength] at h
    rw [sym]
    refine h.nextSymbol hx.legal hsafe hy before hpol (.inl phase) count (drive.trans (symbolInFlight_iff.mp symbol).1)
      hx.len.2 ?_ fun hend => ?_
    · unfold bitCount; omega
    · unfold bitCount at hend; omega
  | beginsEof before full phase drive sym count sent bits =>
    obtain ⟨hpol, hlength⟩ := hnext before full
    have hwhole : bitCount t = 8 * x.len.toNat := by simp [bitCount, sent, bits, hs.same.len]
    rw [hlength] at h
    rw [sym]
    refine h.nextSymbol hx.legal hsafe hy before hpol (.inr phase) count ?_ hx.len.2 hwhole.le fun _ => phase
    rw [drive, hwhole, symPol_whole]

/-- From the first sample of the SOF on the receiver follows the frame to its end. -/
theorem follows_run (hx : Sendable x) (hsafe : x.params.RoundTripSafe) (hstart : OnBus x 0 x) (hsof : x.phase = .txSof)
    (hsym : x.symTmr = 0#16) (hy : y.params = x.params) (hphase : y.phase = .rxWaitSof) (hdrive : y.drive = .passive)
    (hbytes : y.bytes = 0#4) (hbits : y.bits = 0#3) (hwf : Memory.wf y.buf = true) :
    ∀ m, m < frameTime x → ∃ y', pairTick^[m + 1] (x, y) = (ownTick^[m + 1] x, y') ∧ y'.params = x.params ∧
      Follows (bufRead x) x.len.toNat (ownTick^[m] x) ((ownTick^[m] x).symTmr.toNat + 1) y'
  | 0, _ => by
    refine ⟨tickPhase x.drive y, pairTick_left hdrive, (tickPhase_params _ y).trans hy, .sof hsof ?_⟩
    have hactive : x.drive = .active := hstart.drive.trans (expectedDrive_sof hsof)
    rw [hactive, Function.iterate_zero_apply, hsym]
    exact inSofPulse_first hphase hdrive hbytes hbits hwf
  | m + 1, hm => by
    obtain ⟨y', hpair, hparams, hfollows⟩ :=
      follows_run hx hsafe hstart hsof hsym hy hphase hdrive hbytes hbits hwf m (by omega)
    have hs := hstart.run hx m (by omega)
    have ht := hstart.run hx (m + 1) hm
    rw [Function.iterate_succ_apply'] at ht
    refine ⟨tickPhase (ownTick^[m + 1] x).drive y', ?_, (tickPhase_params _ y').trans hparams, ?_⟩
    · rw [Function.iterate_succ_apply', hpair, pairTick_left hfollows.drive, ← Function.iterate_succ_apply' ownTick]
    · rw [Function.iterate_succ_apply']
      exact hfollows.tick hx hsafe hparams hs ht

/-- The frame arrives: both blocks end with OK after its time, and the receiver has its bytes. -/
theorem frame_arrives (hx : Sendable x) (hsafe : x.params.RoundTripSafe) (hstart : OnBus x 0 x) (hsof : x.phase = .txSof)
    (hsym : x.symTmr = 0#16) (hy : y.params = x.params) (hphase : y.phase = .rxWaitSof) (hdrive : y.drive = .passive)
    (hbytes : y.bytes = 0#4) (hbits : y.bits = 0#3) (hwf : Memory.wf y.buf = true) :
    ∃ x' y', pairTick^[frameTime x] (x, y) = (x', y') ∧ x'.busy = false ∧ x'.result = .ok ∧
      x'.bytes.toNat = x.len.toNat ∧ Received (bufRead x) x.len.toNat y' := by
  obtain ⟨m, hm⟩ := Nat.exists_eq_add_one_of_ne_zero hstart.lt.ne'
  obtain ⟨y', hpair, hparams, hfollows⟩ :=
    follows_run hx hsafe hstart hsof hsym hy hphase hdrive hbytes hbits hwf m (by omega)
  have hlast := hstart.run hx m (by omega)
  obtain ⟨heof, hfull, hend⟩ := hlast.ends hx hm.symm
  have hreceived : Received (bufRead x) x.len.toNat y' := by
    rw [hfull] at hfollows
    cases hfollows with
    | sof phase => simp [heof] at phase
    | symbol _ short =>
      rw [hparams] at short
      exact absurd hsafe.2.2.2 short.not_ge
    | ended _ received => exact received
  rw [hm, hpair, Function.iterate_succ_apply', hend]
  exact ⟨_, y', rfl, rfl, rfl, hlast.sent heof, hreceived⟩

end

end Sys2Proof.Machine
end

section
/-! PROOFS. Two blocks from the commands on (70_reset_and_hazards.md R298), and two transmitters in a collision
(60_exceptions.md R272). -/

namespace Sys2Proof.Machine

/-! ### Both wait for the idle bus -/

/-- The receiver has waited `m` idle ticks for the bus, from its acceptance as `y` on. -/
structure RxWaitsIdle (y : State) (m : Nat) (s : State) : Prop where
  params : s.params = y.params
  tmo : tmo s = tmo y
  buf : s.buf = y.buf
  drive : s.drive = .passive
  phase : s.phase = .rxWaitIdle
  wait : s.waitTmr.toNat = m
  sym : s.symTmr.toNat = m
  bytes : s.bytes = 0#4
  bits : s.bits = 0#3

/-- The receiver waits for the SOF edge, with the parameters and the BUF of `y`. -/
structure RxAwaitsSof (y s : State) : Prop where
  params : s.params = y.params
  buf : s.buf = y.buf
  drive : s.drive = .passive
  phase : s.phase = .rxWaitSof
  bytes : s.bytes = 0#4
  bits : s.bits = 0#3

section

variable {x y s : State} {m : Nat}

/-- One more idle tick before the timeout: the wait goes on, or the bus counts as idle. -/
theorem RxWaitsIdle.tick (hifs : y.params.rxIfsMin ≤ 0xFFFF) (h : RxWaitsIdle y m s) (hle : m + 1 ≤ y.params.rxIfsMin)
    (htmo : m + 1 < (Machine.tmo y).toNat) :
    (m + 1 < y.params.rxIfsMin → RxWaitsIdle y (m + 1) (tickPhase .passive s)) ∧
      (m + 1 = y.params.rxIfsMin → RxAwaitsSof y (tickPhase .passive s)) := by
  obtain ⟨params, tmo, buf, drive, phase, wait, sym, bytes, bits⟩ := h
  have hsym : (advance s.symTmr).toNat = m + 1 := (advance_toNat_of_lt (by omega)).trans (congrArg (· + 1) sym)
  have hwait : (advance s.waitTmr).toNat = m + 1 := (advance_toNat_of_lt (by omega)).trans (congrArg (· + 1) wait)
  rw [tickPhase_rxWaitIdle .passive s phase]
  obtain ⟨hend, _⟩ | ⟨_, hlv, _⟩ | ⟨_, _, hidle, h⟩ | ⟨_, _, hlt, h⟩ := rxWaitIdleTick_cases .passive (sampleLine s .passive)
  · change (Machine.tmo s).toNat ≤ (advance s.waitTmr).toNat at hend
    rw [tmo] at hend
    omega
  · cases hlv
  · change s.params.rxIfsMin ≤ (advance s.symTmr).toNat at hidle
    rw [params] at hidle
    rw [h]
    exact ⟨fun hlt => by omega, fun _ => ⟨params, buf, drive, rfl, bytes, bits⟩⟩
  · change (advance s.symTmr).toNat < s.params.rxIfsMin at hlt
    rw [params] at hlt
    rw [h]
    exact ⟨fun _ => ⟨params, tmo, buf, drive, phase, hwait, hsym, bytes, bits⟩, fun heq => by omega⟩

/-- Up to RX_IFS_MIN both wait, on a Passive line. -/
theorem bothWait (hx : Sendable x) (hparams : x.params = y.params) (hceil : x.params.rxIfsMin ≤ x.params.txIdleCeil)
    (htmo : x.params.rxIfsMin < (tmo y).toNat) (hxstart : WaitsIdle x 0 x) (hystart : RxWaitsIdle y 0 y) :
    ∀ m, m < x.params.rxIfsMin → ∃ y', pairTick^[m] (x, y) = (ownTick^[m] x, y') ∧ RxWaitsIdle y m y'
  | 0, _ => ⟨y, rfl, hystart⟩
  | m + 1, hm => by
    obtain ⟨y', hpair, hwaits⟩ := bothWait hx hparams hceil htmo hxstart hystart m (by omega)
    have hbefore := hxstart.run hx hceil m (by omega)
    have hifs : y.params.rxIfsMin ≤ 0xFFFF := by
      obtain ⟨⟨hwindows, _⟩, _⟩ := hx
      rw [← hparams]
      omega
    refine ⟨tickPhase .passive y', ?_, (hwaits.tick hifs (by rw [← hparams]; omega) (by omega)).1 (by rwa [← hparams])⟩
    rw [Function.iterate_succ_apply', hpair, pairTick_left hwaits.drive, hbefore.drive, ← Function.iterate_succ_apply' ownTick]

/-- After RX_IFS_MIN ticks the transmitter begins its SOF and the receiver waits for it. -/
theorem bothReady (hx : Sendable x) (hparams : x.params = y.params) (hceil : x.params.rxIfsMin ≤ x.params.txIdleCeil)
    (htmo : x.params.rxIfsMin < (tmo y).toNat) (hxstart : WaitsIdle x 0 x) (hystart : RxWaitsIdle y 0 y) :
    ∃ y', pairTick^[x.params.rxIfsMin] (x, y) = (ownTick^[x.params.rxIfsMin] x, y') ∧ RxAwaitsSof y y' := by
  obtain ⟨m, hm⟩ : ∃ m, x.params.rxIfsMin = m + 1 := by
    obtain ⟨⟨hwindows, _⟩, _⟩ := hx
    exact ⟨x.params.rxIfsMin - 1, by omega⟩
  have hifs : y.params.rxIfsMin = m + 1 ∧ y.params.rxIfsMin ≤ 0xFFFF := by
    obtain ⟨⟨hwindows, _⟩, _⟩ := hx
    rw [← hparams]
    omega
  obtain ⟨y', hpair, hwaits⟩ := bothWait hx hparams hceil htmo hxstart hystart m (by omega)
  have hbefore := hxstart.run hx hceil m (by omega)
  refine ⟨tickPhase .passive y', ?_, (hwaits.tick hifs.2 hifs.1.ge (hm ▸ htmo)).2 hifs.1.symm⟩
  rw [hm, Function.iterate_succ_apply', hpair, pairTick_left hwaits.drive, hbefore.drive, Function.iterate_succ_apply',
    ownTick, hbefore.drive]

/-- From the acceptance of both commands on the frame arrives after the wait and its time. -/
theorem frame_arrives_afterWait (hx : Sendable x) (hsafe : x.params.RoundTripSafe) (hparams : x.params = y.params)
    (hceil : x.params.rxIfsMin ≤ x.params.txIdleCeil) (htmo : x.params.rxIfsMin < (tmo y).toNat)
    (hxstart : WaitsIdle x 0 x) (hystart : RxWaitsIdle y 0 y) (hwf : Memory.wf y.buf = true) :
    ∃ x' y', pairTick^[frameTime x + x.params.rxIfsMin] (x, y) = (x', y') ∧ x'.busy = false ∧ x'.result = .ok ∧
      x'.bytes.toNat = x.len.toNat ∧ Received (bufRead x) x.len.toNat y' := by
  obtain ⟨y2, hpair, hready⟩ := bothReady hx hparams hceil htmo hxstart hystart
  obtain ⟨hsof, hphase⟩ := hxstart.run_sof hx hceil
  generalize ownTick^[x.params.rxIfsMin] x = x2 at hpair hsof hphase
  have hx2 : Sendable x2 := ⟨by rw [hsof.same.params]; exact hx.legal, by rw [hsof.same.len]; exact hx.len⟩
  have hsym : x2.symTmr = 0#16 := BitVec.eq_of_toNat_eq ((busTime_sof hphase).symm.trans hsof.time)
  have harrives := frame_arrives hx2 (by rwa [hsof.same.params]) hsof.restart hphase hsym
    (hready.params.trans (hparams.symm.trans hsof.same.params.symm)) hready.phase hready.drive hready.bytes hready.bits
    (by rwa [hready.buf])
  rw [hsof.same.frameTime, hsof.same.len, hsof.same.bufRead] at harrives
  rwa [Function.iterate_add_apply, hpair]

end

/-! ### A collision of two transmitters -/

/-- One driver is enough to make the line Active. -/
theorem netLine_right {x y : State} (h : y.drive = .active) : netLine .passive [x, y] = .active := by
  unfold netLine
  rw [busLevel_eq_active_iff]
  simp [h]

/-- `s` is `j` ticks into the Passive data symbol that the transmitter `x` is sending. -/
structure InPassiveSymbol (x : State) (j : Nat) (s : State) : Prop where
  inv : BlockInv s
  params : s.params = x.params
  bytes : s.bytes = x.bytes
  bits : s.bits = x.bits
  phase : s.phase = .txData
  pol : s.txPol = .passive
  length : s.txN = x.txN
  sym : s.symTmr.toNat = j

section

variable {x s : State} {j : Nat}

theorem InPassiveSymbol.drive (h : InPassiveSymbol x j s) : s.drive = .passive := by
  rw [h.inv.drive, expectedDrive_data h.phase, h.pol]

theorem InPassiveSymbol.advance (h : InPassiveSymbol x j s) (hle : j < x.txN.toNat) :
    (Machine.advance s.symTmr).toNat = j + 1 := by
  have htxN := x.txN.isLt
  rw [advance_toNat_of_lt (by rw [h.sym]; omega), h.sym]

theorem InPassiveSymbol.goesOn (hlegal : x.params.Legal) (h : InPassiveSymbol x j s) (hlt : j + 1 < x.txN.toNat) :
    InPassiveSymbol x (j + 1) (tickPhase .passive s) := by
  have hadv := h.advance (by omega)
  have hinv := h.inv.tick (by rw [h.params]; exact hlegal) .passive
  obtain ⟨_, params, bytes, bits, phase, pol, length, sym⟩ := h
  rw [tickPhase_txData .passive s phase] at hinv ⊢
  obtain ⟨_, hlv, _⟩ | ⟨hend, _⟩ | ⟨_, _, heq⟩ := txDataTick_cases .passive (sampleLine s .passive)
  · cases hlv
  · change s.txN.toNat ≤ (Machine.advance s.symTmr).toNat at hend
    rw [length] at hend
    omega
  · rw [heq] at hinv ⊢
    exact ⟨hinv, params, bytes, bits, phase, pol, length, hadv⟩

/-- An Active line before the symbol's last sample ends it in contention. -/
theorem InPassiveSymbol.contends (h : InPassiveSymbol x j s) (hlt : j + 1 < x.txN.toNat) :
    tickPhase .active s = finish .busErr .contention (oneTickOn .active s) := by
  have hadv := h.advance (by omega)
  rw [tickPhase_txData .active s h.phase]
  obtain ⟨_, _, _, heq⟩ | ⟨hend, _⟩ | ⟨hquiet, _⟩ := txDataTick_cases .active (sampleLine s .active)
  · exact heq
  · change s.txN.toNat ≤ (Machine.advance s.symTmr).toNat at hend
    rw [h.length] at hend
    omega
  · exact absurd hquiet (by simp [h.pol])

/-- The end of a Passive symbol, whose number is even, starts an Active one. -/
theorem InPassiveSymbol.ends (hlegal : x.params.Legal) (h : InPassiveSymbol x j s) (hend : j + 1 = x.txN.toNat) :
    let t := tickPhase .passive s
    BlockInv t ∧ t.params = x.params ∧ t.phase = .txData ∧ t.drive = .active ∧ t.symTmr = 0#16 := by
  have hinv := h.inv.tick (by rw [h.params]; exact hlegal) .passive
  have htx : s.phase.isTx = true := by rw [h.phase]; rfl
  have hrange := h.inv.txInRange htx
  have hmove := hrange.move .passive (by rw [h.params]; exact hlegal) (h.inv.txLen htx)
  have hpol := (symbolInFlight_iff.mp (hrange.inData h.phase).2).1
  have heven : bitCount s % 2 = 0 := by
    by_contra hodd
    rw [h.pol, symPol, if_neg hodd] at hpol
    cases hpol
  have hfull : s.symTmr.toNat + 1 = pieceLength s := by rw [pieceLength_data h.phase, h.length, h.sym, hend]
  refine ⟨hinv, (tickPhase_params _ s).trans h.params, ?_⟩
  cases hmove with
  | waits before | timesOut before | beginsSof before | firstSymbol before | ends before =>
    exact nomatch h.phase.symm.trans before
  | goesOn _ lt | contends _ _ _ lt => exact absurd hfull lt.ne
  | beginsEof _ _ _ _ _ count sent bits =>
    have hwhole : bitCount (tickPhase .passive s) = 8 * s.len.toNat := by simp [bitCount, sent, bits]
    omega
  | nextSymbol _ _ phase drive sym symbol count =>
    refine ⟨phase, ?_, sym⟩
    rw [drive, (symbolInFlight_iff.mp symbol).1, count, symPol_succ, ← hpol, h.pol]
    rfl

end

theorem inPassiveSymbol_start {x : State} (hinv : BlockInv x) (hphase : x.phase = .txData) (hpol : x.txPol = .passive)
    (hsym : x.symTmr = 0#16) : InPassiveSymbol x 0 x :=
  ⟨hinv, rfl, rfl, rfl, hphase, hpol, rfl, by rw [hsym]; rfl⟩

/-- Two Passive symbols side by side, up to the last tick of the shorter one. -/
theorem bothPassive {x y : State} (hxlegal : x.params.Legal) (hylegal : y.params.Legal) (hx : InPassiveSymbol x 0 x)
    (hy : InPassiveSymbol y 0 y) (hle : y.txN.toNat ≤ x.txN.toNat) : ∀ j, j < y.txN.toNat →
    ∃ x' y', pairTick^[j] (x, y) = (x', y') ∧ InPassiveSymbol x j x' ∧ InPassiveSymbol y j y'
  | 0, _ => ⟨x, y, rfl, hx, hy⟩
  | j + 1, hj => by
    obtain ⟨x', y', hpair, hx', hy'⟩ := bothPassive hxlegal hylegal hx hy hle j (by omega)
    refine ⟨tickPhase .passive x', tickPhase .passive y', ?_, hx'.goesOn hxlegal (by omega), hy'.goesOn hylegal hj⟩
    rw [Function.iterate_succ_apply', hpair, pairTick, netLine_left hy'.drive, hx'.drive]

/-- Inside an Active symbol of two ticks or more the transmitter goes on. -/
theorem activeSymbol_goesOn {t : State} (lv : Level) (hshort : 2 ≤ t.params.txShort)
    (hlong : 2 ≤ t.params.txLong) (hinv : BlockInv t) (hphase : t.phase = .txData) (hdrive : t.drive = .active)
    (hsym : t.symTmr = 0#16) : tickPhase lv t = oneTickOn lv t := by
  have hpol : t.txPol = .active := by rw [← expectedDrive_data hphase, ← hinv.drive, hdrive]
  have hlength : 2 ≤ t.txN.toNat := by
    rw [(hinv.symbol hphase).length]
    unfold symbolDur
    split <;> assumption
  rw [tickPhase_txData lv t hphase]
  obtain ⟨hpassive, _⟩ | ⟨hend, _⟩ | ⟨_, _, h⟩ := txDataTick_cases lv (sampleLine t lv)
  · exact absurd hpassive (by simp [hpol])
  · change t.txN.toNat ≤ (advance t.symTmr).toNat at hend
    rw [hsym, show (advance 0#16).toNat = 1 from rfl] at hend
    omega
  · exact h

end Sys2Proof.Machine
end

section
/-! The statements on two blocks. -/

open Sys2Proof Sys2Proof.Machine

/-- Settles O57: the receiver follows the frame from its first sample on. -/
theorem loopbackRoundTrip : Obligations.LoopbackRoundTrip := by
  intro x y hparams hlegal hsafe hxphase hxdrive hxsym hxbytes hxbits hmin hlen hyphase hydrive hybytes hybits hwf n
  have hn : n = frameTime x := by rw [frameTime, ← frameDur_eq]
  have hstart : OnBus x 0 x := by
    obtain ⟨_, _, ⟨_, _, hsof, _⟩, _⟩ := hlegal
    refine ⟨.refl x, .sof hxphase (by rw [hxsym]; exact hsof.1) hxbytes hxbits, by simp [hxphase], ?_, ?_⟩
    · rw [hxdrive, expectedDrive_sof hxphase]
    · rw [busTime_sof hxphase, hxsym]
      rfl
  obtain ⟨x', y', hpair, hbusy, hresult, hbytes, hreceived⟩ :=
    frame_arrives ⟨hlegal, hmin, hlen⟩ hsafe hstart hxphase hxsym hparams.symm hyphase hydrive hybytes hybits hwf
  refine ⟨x', y', ?_, hbusy, hresult, hbytes, hreceived.busy, hreceived.done, hreceived.result, hreceived.bytes,
    hreceived.stored⟩
  rw [netTicks_pair n (x, y), hn, hpair]

/-- Settles O58: both wait for RX_IFS_MIN idle ticks, which Y's timeout allows, and then the frame arrives. -/
theorem loopbackFromTheCommands : Obligations.LoopbackFromTheCommands := by
  intro x y x1 y1 hparams hlegal hsafe hceil hxidle hyidle hxdrive hydrive hmin hlen htmo hwf hxexec hyexec n
  have hx1 := eq_of_exec_transmit hlegal hxidle hmin hlen hxexec
  have hy1 := eq_of_exec_receive hyidle hyexec
  have hx : Sendable x1 := by subst hx1; exact ⟨hlegal, hmin, hlen⟩
  have hxstart : WaitsIdle x1 0 x1 := by subst hx1; exact waitsIdle_launch hxdrive
  have hystart : RxWaitsIdle y1 0 y1 := by subst hy1; exact ⟨rfl, rfl, rfl, hydrive, rfl, rfl, rfl, rfl, rfl⟩
  have hxframe : x1.params = x.params ∧ x1.len = x.len ∧ bufRead x1 = bufRead x := by subst hx1; exact ⟨rfl, rfl, rfl⟩
  have hyframe : y1.params = y.params ∧ tmo y1 = tmo y ∧ y1.buf = y.buf := by subst hy1; exact ⟨rfl, rfl, rfl⟩
  obtain ⟨hxparams, hxlen, hxread⟩ := hxframe
  obtain ⟨hyparams, hytmo, hybuf⟩ := hyframe
  have hn : n = frameTime x1 + x1.params.rxIfsMin := by
    rw [frameTime, hxparams, hxlen, hxread, ← frameDur_eq]
    omega
  obtain ⟨x', y', hpair, hbusy, hresult, hbytes, hreceived⟩ :=
    frame_arrives_afterWait hx (by rwa [hxparams]) (by rw [hxparams, hparams, hyparams]) (by rwa [hxparams])
      (by rw [hxparams, hytmo, tmo_nat]; exact htmo) hxstart hystart (by rwa [hybuf])
  rw [hxread, hxlen] at hreceived
  refine ⟨x', y', ?_, hbusy, hresult, hxlen ▸ hbytes, hreceived.busy, hreceived.done, hreceived.result, hreceived.bytes,
    hreceived.stored⟩
  rw [netTicks_pair n (x1, y1), hn, hpair]

/-- Settles O59: both go on to the last tick of Y's symbol, Y then drives Active, and X meets it inside its own. -/
theorem longerPassiveSymbolLosesTheCollision : Obligations.LongerPassiveSymbolLosesTheCollision := by
  intro x y hparams hlegal hshort hlong hxinv hyinv hxphase hyphase hxsym hysym hxpol hypol hxlen hylen
  have hylegal : y.params.Legal := hparams ▸ hlegal
  rw [← hparams] at hylen
  have hx := inPassiveSymbol_start hxinv hxphase hxpol hxsym
  have hy := inPassiveSymbol_start hyinv hyphase hypol hysym
  obtain ⟨j, hj⟩ := Nat.exists_eq_add_one_of_ne_zero (show x.params.txShort ≠ 0 by omega)
  obtain ⟨x1, y1, hpair, hx1, hy1⟩ := bothPassive hlegal hylegal hx hy (by omega) j (by omega)
  have hx2 := hx1.goesOn hlegal (by omega)
  obtain ⟨hinv, hparams2, hphase, hdrive, hsym⟩ := hy1.ends hylegal (by omega)
  have hx3 := hx2.contends (by omega)
  have hy3 := activeSymbol_goesOn .active (by rw [hparams2, ← hparams]; exact hshort)
    (by rw [hparams2, ← hparams]; omega) hinv hphase hdrive hsym
  refine ⟨_, _, netTicks_pair _ (x, y), ?_⟩
  have htwo : pairTick^[x.params.txShort + 1] (x, y) =
      (tickPhase .active (tickPhase .passive x1), tickPhase .active (tickPhase .passive y1)) := by
    rw [Function.iterate_succ_apply', hj, Function.iterate_succ_apply', hpair, pairTick_left hy1.drive, ownTick,
      hx1.drive, pairTick, netLine_right hdrive]
  rw [htwo, hx3, hy3]
  refine ⟨rfl, rfl, rfl, rfl, hx2.bytes, hx2.bits, ?_, hphase, hdrive⟩
  exact hinv.coherent.busyIff.mpr (by simp [hphase])

end

section
/-! PROOFS. What the whole machine keeps (45_control.md, 10_state.md): the tick phase's frame, the host writes' reach into the
counters, PHASE, DONE and the operands, and the outcomes a tick ends an operation with. -/

namespace Sys2Proof.Machine

section

variable {s t : State}

/-! ### Commands and host writes, as the engine sees them -/

/-- What a host write does to the engine: nothing, an acceptance, TRANSMIT's DataError, or ABORT. -/
inductive HostEffect (a : Addr) (v : Byte) (s t : State) : Prop
  | keeps (busy : t.busy = s.busy) (result : t.result = s.result) (phase : t.phase = s.phase) (sym : t.symTmr = s.symTmr)
      (wait : t.waitTmr = s.waitTmr)
      (done : t.done = s.done ∨ (a = 0x02#5 ∧ v.getLsbD 1 = true ∧ t.done = false))
  | receives (addr : a = 0x01#5) (value : v = 0x01#8) (idle : s.busy = false)
      (eq : t = { launch .rxWaitIdle (claim .receive s) with shift := 0x00#8, last := .passive })
  | transmits (addr : a = 0x01#5) (value : v = 0x02#8) (idle : s.busy = false)
      (eq : t = launch .txWaitIdle (claim .transmit s))
  | dataError (idle : s.busy = false) (eq : t = raiseDataError (claim .transmit s))
  | aborts (addr : a = 0x01#5) (value : v = 0x03#8) (busy : s.busy = true) (eq : t = finish .aborted .none s)

theorem hostEffect_refl (a : Addr) (v : Byte) (s : State) : HostEffect a v s s := .keeps rfl rfl rfl rfl rfl (.inl rfl)

theorem hostEffect_reject (a : Addr) (v : Byte) (s : State) : HostEffect a v s (reject s) := .keeps rfl rfl rfl rfl rfl (.inl rfl)

theorem hostEffect_exec {i : Instr} (h : exec i s = .next t) : HostEffect 0x01#5 (encode i) s t := by
  cases i with
  | nop => cases h; exact hostEffect_refl _ _ s
  | receive =>
    cases hbusy : s.busy with
    | true => cases (execReceive_busy hbusy).symm.trans h; exact hostEffect_reject _ _ s
    | false => cases (execReceive_idle hbusy).symm.trans h; exact .receives rfl rfl hbusy rfl
  | transmit =>
    cases hbusy : s.busy with
    | true => cases (execTransmit_busy hbusy).symm.trans h; exact hostEffect_reject _ _ s
    | false =>
      cases hlen : lenLegal s with
      | true => cases (execTransmit_legal hbusy hlen).symm.trans h; exact .transmits rfl rfl hbusy rfl
      | false => cases (execTransmit_illegal hbusy hlen).symm.trans h; exact .dataError hbusy rfl
  | abort =>
    cases hbusy : s.busy with
    | true => cases (execAbort_busy hbusy).symm.trans h; exact .aborts rfl rfl hbusy rfl
    | false => cases (execAbort_idle hbusy).symm.trans h; exact hostEffect_refl _ _ s
  | crcInit | crcBit | crcByte => cases h; exact .keeps rfl rfl rfl rfl rfl (.inl rfl)
  | classify =>
    obtain ⟨_, hset⟩ | ⟨_, _, _, hset⟩ := execClassify_cases s <;> cases hset.symm.trans h
    · exact hostEffect_reject _ _ s
    · exact .keeps rfl rfl rfl rfl rfl (.inl rfl)

theorem hostEffect_command {op : Byte} (h : command op s = .next t) : HostEffect 0x01#5 op s t := by
  unfold command at h
  cases hdecode : decode op with
  | ok i =>
    rw [hdecode] at h
    exact encode_of_decode hdecode ▸ hostEffect_exec h
  | error e =>
    rw [hdecode] at h
    cases h
    exact hostEffect_reject _ _ s

/-- A guarded write is refused or stored, and reaches no field of the engine but BUF. -/
theorem hostEffect_busyGuard (a : Addr) (v : Byte) {write : State → State} (hkeeps : HostEffect a v s (write s)) :
    HostEffect a v s (busyGuard write s) := by
  obtain ⟨_, h⟩ | ⟨_, h⟩ := busyGuard_cases write s <;> rw [h]
  · exact hostEffect_reject a v s
  · exact hkeeps

theorem hostEffect_bufWrite (a : Addr) (v : Byte) (i : Nat) : HostEffect a v s (bufWrite s i v) :=
  .keeps (by simp) (by simp) (by simp) (by simp) (by simp) (.inl (by simp))

/-- A write to STATUS clears DONE only by its bit 1 (45_control.md R238). -/
theorem hostEffect_statusW1C (s0 : State) (v : Byte) : HostEffect 0x02#5 v s (statusW1C s0 v s) := by
  refine .keeps rfl rfl rfl rfl rfl ?_
  rw [statusW1C_done]
  split
  · next h => exact .inr ⟨rfl, (Bool.and_eq_true_iff.mp h).1, rfl⟩
  · exact .inl rfl

theorem hostEffect_hostWrite {s0 : State} {a : Addr} {v : Byte} (h : hostWrite s0 a v s = .next t) :
    HostEffect a v s t := by
  rw [← Reg.addr_ofAddr a]
  unfold hostWrite at h
  generalize Reg.ofAddr a = r at h ⊢
  cases r with
  | cmd => exact hostEffect_command h
  | status => cases h; exact hostEffect_statusW1C s0 v
  | ctrl | len | tmoL | tmoH => cases h; exact hostEffect_busyGuard _ v (.keeps rfl rfl rfl rfl rfl (.inl rfl))
  | buf i => cases h; exact hostEffect_busyGuard _ v (hostEffect_bufWrite _ v i)
  | crc | crcData | durL | durH | clsCfg => cases h; exact .keeps rfl rfl rfl rfl rfl (.inl rfl)
  | count | crcOut | clsRes | state | errCause | reserved i => cases h; exact hostEffect_refl _ v s

/-- A host write changes no parameter. -/
theorem exec_params {i : Instr} (h : exec i s = .next t) : t.params = s.params := by
  obtain ⟨u, hu, hcase⟩ := exec_cases i s
  cases hu.symm.trans h
  obtain rfl | rfl | ⟨_, rfl⟩ | ⟨_, _, rfl⟩ | ⟨_, _, rfl⟩ | ⟨_, rfl⟩ | ⟨c, rfl⟩ | ⟨_, _, _, rfl⟩ := hcase <;> rfl

theorem hostWrite_params {s0 : State} {a : Addr} {v : Byte} (h : hostWrite s0 a v s = .next t) : t.params = s.params := by
  obtain ⟨u, hu, hcase⟩ := hostWrite_cases s0 a v s
  cases hu.symm.trans h
  obtain rfl | rfl | ⟨_, rfl | rfl | rfl | rfl | ⟨i, _, rfl⟩⟩ | rfl | (rfl | rfl | rfl | rfl | rfl) | ⟨i, hexec⟩ := hcase
  case inr.inr.inl.inr.inr.inr.inr => exact bufWrite_params s i v
  case inr.inr.inr.inr.inr => exact exec_params hexec
  all_goals rfl

/-- The operands of an operation but BUF: CTRL, LEN, TMO and OP (10_state.md R40). -/
structure SameOperands (s t : State) : Prop where
  strict : t.strict = s.strict
  ie : t.ie = s.ie
  len : t.len = s.len
  tmoL : t.tmoL = s.tmoL
  tmoH : t.tmoH = s.tmoH
  op : t.op = s.op

theorem SameOperands.trans {u : State} (h : SameOperands s t) (h' : SameOperands t u) : SameOperands s u :=
  ⟨h'.strict.trans h.strict, h'.ie.trans h.ie, h'.len.trans h.len, h'.tmoL.trans h.tmoL, h'.tmoH.trans h.tmoH,
    h'.op.trans h.op⟩

/-- While an operation is in flight a command leaves its operands. -/
theorem exec_operands {i : Instr} (hbusy : s.busy = true) (h : exec i s = .next t) :
    SameOperands s t ∧ t.buf = s.buf := by
  obtain ⟨u, hu, hcase⟩ := exec_cases i s
  cases hu.symm.trans h
  obtain rfl | rfl | ⟨hidle, _⟩ | ⟨hidle, _⟩ | ⟨hidle, _⟩ | ⟨_, rfl⟩ | ⟨c, rfl⟩ | ⟨_, _, _, rfl⟩ := hcase
  case inr.inr.inl | inr.inr.inr.inl | inr.inr.inr.inr.inl => exact nomatch hbusy.symm.trans hidle
  all_goals exact ⟨⟨rfl, rfl, rfl, rfl, rfl, rfl⟩, rfl⟩

/-- While an operation is in flight a host write leaves its operands (45_control.md R239). -/
theorem hostWrite_operands {s0 : State} {a : Addr} {v : Byte} (hbusy : s.busy = true)
    (h : hostWrite s0 a v s = .next t) : SameOperands s t ∧ t.buf = s.buf := by
  obtain ⟨u, hu, hcase⟩ := hostWrite_cases s0 a v s
  cases hu.symm.trans h
  obtain rfl | rfl | ⟨hidle, _⟩ | rfl | (rfl | rfl | rfl | rfl | rfl) | ⟨i, hexec⟩ := hcase
  case inr.inr.inl => exact nomatch hbusy.symm.trans hidle
  case inr.inr.inr.inr.inr => exact exec_operands hbusy hexec
  all_goals exact ⟨⟨rfl, rfl, rfl, rfl, rfl, rfl⟩, rfl⟩

/-! ### A step by its inputs -/

/-- What the tick phase of a cycle leaves (45_control.md R230). -/
def tickedState (s s0 : State) (inp : CycleInput) : State := if inp.tick then tickPhase (sampled inp.ext s) s0 else s0

/-- A step is reset, the tick phase alone, or the tick phase and a host write. -/
theorem step_inputs {s0 : State} {inp : CycleInput} (hinput : takeInput s = (inp, s0)) (hstep : step s = .next t) :
    (inp.rst = true ∧ t = resetBlock s0) ∨ (inp.rst = false ∧ inp.we = false ∧ t = tickedState s s0 inp) ∨
      (inp.rst = false ∧ inp.we = true ∧ hostWrite s0 inp.addr inp.wdata (tickedState s s0 inp) = .next t) := by
  rw [step_of_legal (legal_of_step hstep), hinput, busLevel_sampled] at hstep
  obtain ⟨u, hu, hcase⟩ := cycle_cases inp (sampled inp.ext s) s0
  cases hu.symm.trans hstep
  exact hcase

/-- The tick phase of a cycle ends the operation in flight, with DONE and an outcome, or leaves all three. -/
theorem tickedState_status (s s0 : State) (inp : CycleInput) :
    ((tickedState s s0 inp).busy = false ∧ (tickedState s s0 inp).done = true ∧ (tickedState s s0 inp).result ≠ .none) ∨
      ((tickedState s s0 inp).busy = s0.busy ∧ (tickedState s s0 inp).done = s0.done) := by
  unfold tickedState
  split
  · obtain ⟨hbusy, hdone, hresult, _⟩ | ⟨hbusy, hdone, _⟩ := tickPhase_status (s := s0) (sampled inp.ext s)
    · exact .inl ⟨hbusy, hdone, hresult⟩
    · exact .inr ⟨hbusy, hdone⟩
  · exact .inr ⟨rfl, rfl⟩

theorem tickedState_params (s s0 : State) (inp : CycleInput) : (tickedState s s0 inp).params = s0.params := by
  unfold tickedState
  split
  · exact tickPhase_params _ s0
  · rfl

/-- The tick phase of a cycle writes no operand, of BUF only the byte at BYTES, and that in RX_DATA only. -/
theorem tickedState_operands (s s0 : State) (inp : CycleInput) (hwf : Memory.wf s0.buf = true) :
    SameOperands s0 (tickedState s s0 inp) ∧ (s0.phase ≠ .rxData → (tickedState s s0 inp).buf = s0.buf) ∧
      ∀ i, i ≠ s0.bytes.toNat → bufRead (tickedState s s0 inp) i = bufRead s0 i := by
  unfold tickedState
  split
  · exact ⟨⟨by simp, by simp, by simp, by simp, by simp, by simp⟩, tickPhase_buf _, fun i hi => bufRead_tickPhase _ hwf hi⟩
  · exact ⟨⟨rfl, rfl, rfl, rfl, rfl, rfl⟩, fun _ => rfl, fun _ _ => rfl⟩

theorem takeInput_operands (s : State) : SameOperands s (takeInput s).2 :=
  ⟨by simp, by simp, by simp, by simp, by simp, by simp⟩

/-- A host write that raises DONE leaves no operation in flight and an outcome. -/
theorem HostEffect.done_rises {a : Addr} {v : Byte} (h : HostEffect a v s t) (hlow : s.done = false) (hhigh : t.done = true) :
    t.busy = false ∧ t.result ≠ .none := by
  cases h with
  | keeps _ _ _ _ _ done => obtain done | ⟨_, _, done⟩ := done <;> simp_all
  | receives _ _ _ eq | transmits _ _ _ eq => rw [eq] at hhigh; cases hhigh
  | dataError idle eq => rw [eq]; exact ⟨idle, nofun⟩
  | aborts _ _ _ eq => rw [eq]; exact ⟨rfl, nofun⟩

/-- A host write keeps an outcome that DONE stands for, or is the next acceptance. -/
theorem HostEffect.done_stays {a : Addr} {v : Byte} (h : HostEffect a v s t) (hend : s.busy = false ∧ s.result ≠ .none)
    (hhigh : t.done = true) : t.busy = false ∧ t.result ≠ .none := by
  cases h with
  | keeps busy result => rw [busy, result]; exact hend
  | receives _ _ _ eq | transmits _ _ _ eq => rw [eq] at hhigh; cases hhigh
  | dataError idle eq => rw [eq]; exact ⟨idle, nofun⟩
  | aborts _ _ _ eq => rw [eq]; exact ⟨rfl, nofun⟩

/-- DONE falls by W1C of its bit, or by an acceptance. -/
theorem HostEffect.done_falls {a : Addr} {v : Byte} (h : HostEffect a v s t) (hhigh : s.done = true) (hlow : t.done = false) :
    (a = 0x02#5 ∧ v.getLsbD 1 = true) ∨ (a = 0x01#5 ∧ (v = 0x01#8 ∨ v = 0x02#8) ∧ t.busy = true) := by
  cases h with
  | keeps _ _ _ _ _ done =>
    obtain done | ⟨haddr, hbit, _⟩ := done
    · exact nomatch hlow.symm.trans (done.trans hhigh)
    · exact .inl ⟨haddr, hbit⟩
  | receives addr value _ eq => exact .inr ⟨addr, .inl value, by rw [eq]; rfl⟩
  | transmits addr value _ eq => exact .inr ⟨addr, .inr value, by rw [eq]; rfl⟩
  | dataError _ eq | aborts _ _ _ eq => rw [eq] at hlow; cases hlow

end

end Sys2Proof.Machine
end

section
/-! The statements about every step. -/

open Sys2Proof Sys2Proof.Machine

/-- Settles O2: the cycle is `resetBlock`, which keeps the parameters and the environment's fields only. -/
theorem resetCycleRestoresTheResetState : Obligations.ResetCycleRestoresTheResetState := by
  intro s inp s0 hlegal hinput hrst
  have hparams : s0.params = s.params := by simpa [hinput] using takeInput_params s
  have hstep : step s = .next (resetBlock s0) := by
    rw [step_of_legal hlegal, hinput]
    exact if_pos hrst
  exact ⟨_, hstep, rfl, hparams, fun _ => ⟨rfl, rfl⟩⟩

/-- Settles O3: the clauses written out are `Params.Legal`, and neither the tick phase nor a host write changes a
parameter. -/
theorem illegalParametersAreRefusedLegalOnesRun : Obligations.IllegalParametersAreRefusedLegalOnesRun := by
  intro s p legal
  have hlegal : legal ↔ s.params.Legal := by
    simp only [legal, p, List.forall_mem_cons, List.not_mem_nil, false_implies, implies_true, and_true, Params.Legal,
      Params.WindowsOrdered, Params.SofOrdered, Params.TxInRange, Params.WidthsFixed]
  rw [hlegal]
  refine ⟨fun h => ?_, step_of_illegal⟩
  obtain ⟨t, ht, _⟩ := cycle_cases (takeInput s).1 (busLevel (takeInput s).1.ext [s.drive]) (takeInput s).2
  rw [← step_of_legal h] at ht
  refine ⟨t, ht, ?_⟩
  have hparams := takeInput_params s
  obtain ⟨_, rfl⟩ | ⟨_, _, rfl⟩ | ⟨_, _, hwrite⟩ := step_inputs rfl ht
  · exact hparams
  · exact (tickedState_params ..).trans hparams
  · exact (hostWrite_params hwrite).trans ((tickedState_params ..).trans hparams)

/-- Settles O4: the cycle of R230 without reset, by the write strobe and the tick. -/
theorem stepRunsTheDecodedCommand : Obligations.StepRunsTheDecodedCommand := by
  intro s inp s0 hlegal hinput hrst s1
  have hquiet (hwe : inp.we = false) : step s = .next s1 := by
    rw [step_of_legal hlegal, hinput, busLevel_sampled]
    simp only [cycle, hrst, hwe, Bool.false_eq_true, if_false]
    rfl
  refine ⟨fun i hwe haddr hdecode => ?_, step_of_write hlegal hinput hrst, hquiet, fun hwe htick => ?_⟩
  · rw [step_of_write hlegal hinput hrst hwe, haddr, hostWrite_cmd, command, hdecode]
  · refine ⟨s0, (hquiet hwe).trans (congrArg Host.Outcome.next (if_neg (by simp [htick]))), ?_⟩
    obtain rfl : s0 = (takeInput s).2 := by rw [hinput]
    unfold takeInput
    split <;> rfl

/-- Settles O5: without a write strobe the cycle does not read the address and the data. -/
theorem readsHaveNoSideEffect : Obligations.ReadsHaveNoSideEffect := by
  intro inp a v lv s hwe
  simp only [cycle, hwe, Bool.false_eq_true, if_false]
  rfl

/-- Settles O14: the tick phase sets DONE, and the write clears only a DONE that the cycle began with. -/
theorem completionInTheClearingCycleSurvives : Obligations.CompletionInTheClearingCycleSurvives := by
  intro s inp s0 hlegal hinv hinput hrst htick hwe haddr hbusy hend
  have hstart : s0.busy = s.busy ∧ s0.done = s.done := by
    exact ⟨by simpa [hinput] using takeInput_busy s, by simpa [hinput] using takeInput_done s⟩
  have hlow : s0.done = false := hstart.2.trans (hinv.coherent.inFlight hbusy).1
  have hdone : (tickPhase (sampled inp.ext s) s0).done = true := by
    obtain ⟨_, hdone, _⟩ | ⟨hsame, _⟩ := tickPhase_status (s := s0) (sampled inp.ext s)
    · exact hdone
    · exact nomatch hend.symm.trans (hsame.trans (hstart.1.trans hbusy))
  refine ⟨statusW1C s0 inp.wdata (tickPhase (sampled inp.ext s) s0), ?_, ?_, hend⟩
  · rw [step_of_write hlegal hinput hrst hwe, haddr, htick, if_pos rfl]
    exact hostWrite_status s0 _ inp.wdata
  · simp [hlow, hdone]

/-- Settles O17: the outputs are fields; DONE goes by the tick phase and then by the host write. -/
theorem irqFollowsDoneAndDoneFollowsCompletion : Obligations.IrqFollowsDoneAndDoneFollowsCompletion := by
  refine ⟨fun _ _ => rfl, fun s _ => Bool.and_eq_true_iff, fun s inp s0 t hinput hstep => ?_⟩
  have hs0 : s0.done = s.done := by simpa [hinput] using takeInput_done s
  have hstatus := tickedState_status s s0 inp
  obtain ⟨hrst, rfl⟩ | ⟨_, _, rfl⟩ | ⟨_, hwe, hwrite⟩ := step_inputs hinput hstep
  · exact ⟨fun _ hhigh => (nomatch hhigh), fun _ _ => .inl hrst⟩
  · refine ⟨fun hlow hhigh => ?_, fun hhigh hlow => ?_⟩
    · obtain ⟨hbusy, _, hresult⟩ | ⟨_, hdone⟩ := hstatus
      · exact ⟨hbusy, hresult⟩
      · exact nomatch hhigh.symm.trans (hdone.trans (hs0.trans hlow))
    · obtain ⟨_, hdone, _⟩ | ⟨_, hdone⟩ := hstatus
      · exact nomatch hlow.symm.trans hdone
      · exact nomatch hlow.symm.trans (hdone.trans (hs0.trans hhigh))
  · have heffect := hostEffect_hostWrite hwrite
    refine ⟨fun hlow hhigh => ?_, fun hhigh hlow => ?_⟩
    · obtain ⟨hbusy, _, hresult⟩ | ⟨_, hdone⟩ := hstatus
      · exact heffect.done_stays ⟨hbusy, hresult⟩ hhigh
      · exact heffect.done_rises (hdone.trans (hs0.trans hlow)) hhigh
    · have hbefore : (tickedState s s0 inp).done = true := by
        obtain ⟨_, hdone, _⟩ | ⟨_, hdone⟩ := hstatus
        · exact hdone
        · exact hdone.trans (hs0.trans hhigh)
      exact .inr ((heffect.done_falls hbefore hlow).imp (fun h => ⟨hwe, h⟩) fun h => ⟨hwe, h⟩)

/-- Settles O37: the host side is not the tick phase's, and the rest is what it does to LINE and BUF. -/
theorem tickPhaseFrame : Obligations.TickPhaseFrame := by
  intro s lv t
  refine ⟨tickPhase_line lv, tickPhase_idle lv s, ?_⟩
  refine ⟨tickPhase_params lv s, tickPhase_strict lv s, tickPhase_ie lv s, tickPhase_op lv s, tickPhase_rej lv s,
    tickPhase_len lv s, tickPhase_tmoL lv s, tickPhase_tmoH lv s, tickPhase_crc lv s, tickPhase_crcData lv s,
    tickPhase_durL lv s, tickPhase_durH lv s, tickPhase_clsCtx lv s, tickPhase_clsPol lv s, tickPhase_clsCat lv s,
    tickPhase_clsBit lv s, tickPhase_clsBerr lv s, tickPhase_buf lv, fun hwf i hi => bufRead_tickPhase lv hwf hi⟩

/-- Settles O38: a tick's effect on the counters, and a host write's. -/
theorem timersOnlyAdvanceOrRestart : Obligations.TimersOnlyAdvanceOrRestart := by
  refine ⟨fun s lv => ?_, fun s0 s t a v hwrite => ?_⟩
  · obtain ⟨hsym, hwait, _, _⟩ := tickPhase_effect s lv
    exact ⟨hsym.imp_right (Or.imp_left fun h => by rw [h, advance_nat]), hwait.imp_right fun h => by rw [h, advance_nat]⟩
  · cases hostEffect_hostWrite hwrite with
    | keeps _ _ _ sym wait => exact .inl ⟨sym, wait⟩
    | receives addr value idle eq => subst eq; exact .inr ⟨addr, .inl value, rfl, idle, rfl, rfl⟩
    | transmits addr value idle eq => subst eq; exact .inr ⟨addr, .inr value, rfl, idle, rfl, rfl⟩
    | dataError _ eq | aborts _ _ _ eq => subst eq; exact .inl ⟨rfl, rfl⟩

/-- Settles O39: a tick's effect on PHASE, and a host write's. -/
theorem phaseMovesOnlyByItsRules : Obligations.PhaseMovesOnlyByItsRules := by
  refine ⟨fun s lv => (tickPhase_effect s lv).phase, fun s0 s t a v hwrite hmoved => ?_⟩
  cases hostEffect_hostWrite hwrite with
  | keeps _ _ phase => exact absurd phase hmoved
  | receives addr value idle eq => subst eq; exact ⟨addr, .inl ⟨value, idle, rfl⟩⟩
  | transmits addr value idle eq => subst eq; exact ⟨addr, .inr (.inl ⟨value, idle, rfl⟩)⟩
  | dataError _ eq => subst eq; exact absurd rfl hmoved
  | aborts addr value busy eq => subst eq; exact ⟨addr, .inr (.inr ⟨value, busy, rfl⟩)⟩

/-- Settles O40: the tick phase writes no operand but a reception's BUF, and with BUSY = 1 a host write none at all. -/
theorem operandsDoNotChangeUnderAnOperation : Obligations.OperandsDoNotChangeUnderAnOperation := by
  intro s inp s0 t hinv hinput hstep hrst _ hbusy
  obtain rfl : s0 = (takeInput s).2 := by rw [hinput]
  have hwf : Memory.wf (takeInput s).2.buf = true := hinv.takeInput.bufWf
  obtain ⟨htick, hbuf, hread⟩ := tickedState_operands s _ inp hwf
  have hlast : SameOperands (tickedState s (takeInput s).2 inp) t ∧ t.buf = (tickedState s (takeInput s).2 inp).buf := by
    obtain ⟨hreset, _⟩ | ⟨_, _, rfl⟩ | ⟨_, _, hwrite⟩ := step_inputs hinput hstep
    · exact nomatch hreset.symm.trans hrst
    · exact ⟨⟨rfl, rfl, rfl, rfl, rfl, rfl⟩, rfl⟩
    · exact hostWrite_operands hbusy hwrite
  obtain ⟨hstrict, hie, hlen, htmoL, htmoH, hop⟩ := ((takeInput_operands s).trans htick).trans hlast.1
  refine ⟨hstrict, hie, hlen, htmoL, htmoH, hop, fun htransmit => ?_, fun i hi => ?_⟩
  · have hphase : (takeInput s).2.phase ≠ .rxData := by
      rw [takeInput_phase]
      exact fun hdata => nomatch (hinv.coherent.opRx (by rw [hdata]; rfl)).symm.trans htransmit
    rw [hlast.2, hbuf hphase, takeInput_buf]
  · rw [bufRead_congr hlast.2, hread i (by rwa [takeInput_bytes]), bufRead_congr (takeInput_buf s)]

/-- Settles O42: a reception and a transmission in range end with a listed outcome or not at all. -/
theorem tickOutcomesAreTheListedOnes : Obligations.TickOutcomesAreTheListedOnes := by
  intro s lv hlegal hinv hbusy t hend
  obtain ⟨_, hdone, _, hidle, _⟩ | ⟨hsame, _⟩ := tickPhase_status (s := s) lv
  · refine ⟨hdone, fun hrx => ?_, fun htx => ?_⟩
    · obtain ⟨r, c, u, heq, houtcome, _⟩ | ⟨hrange, _⟩ := (hinv.rxInRange hrx).tick hlegal lv
      · change t = _ at heq
        rw [heq]
        exact houtcome
      · exact absurd hidle (Phase.ne_idle_of_isRx hrange.isRx)
    · obtain ⟨r, c, u, heq, houtcome, _⟩ | ⟨hrange, _⟩ := (hinv.txInRange htx).tick hlegal (hinv.txLen htx) lv
      · change t = _ at heq
        rw [heq]
        exact houtcome
      · exact absurd hidle (Phase.ne_idle_of_isTx hrange.isTx)
  · exact nomatch hend.symm.trans (hsame.trans hbusy)

end

section
/-! PROOFS. The encodings, the frame buffer, the classifiers and the bit accumulator as functions (30_encoding.md, 10_state.md
R38, 40_classifier.md R104 to R106, 41_symbol_decoder.md R132 to R134). -/

namespace Sys2Proof.Machine

/-! ### The register map -/

theorem Reg.ofAddr_addr (r : Reg) : Reg.ofAddr r.addr = r := by
  cases r with
  | buf i => exact Reg.ofAddr_buf i
  | reserved i => revert i; decide
  | _ => rfl

theorem Reg.addr_buf_toNat : ∀ i : Fin 12, (Reg.addr (.buf i)).toNat = 0x10 + i.val := by decide

/-- CLS_CFG reads back its three defined bits (45_control.md R240). -/
theorem clsCfgByte_writeClsCfg (s : State) (v : Byte) : clsCfgByte (writeClsCfg v s) = v &&& 0x07#8 := by
  have h : ∀ v : Byte, 0#5 ++ (Level.ofBool (v.getLsbD 2)).bit ++ v.extractLsb' 0 2 = v &&& 0x07#8 := by decide
  exact h v

/-! ### The frame buffer is what it reads as -/

theorem Memory.wfFrom_of_wf {m : Memory} (h : Memory.wf m = true) : Memory.wfFrom bufBase m = true := by
  simp only [Memory.wf, Bool.and_eq_true] at h
  exact h.1

theorem buf_eq_of_bufRead_eq {s t : State} (hs : Memory.wf s.buf = true) (ht : Memory.wf t.buf = true)
    (h : ∀ i, i < 12 → bufRead s i = bufRead t i) : s.buf = t.buf := by
  refine Memory.eq_of_read_eq (Memory.wfFrom_of_wf hs) (Memory.wfFrom_of_wf ht) fun a => ?_
  by_cases ha : a < bufBase ∨ reservedBase ≤ a
  · rw [Memory.read_outside hs ha, Memory.read_outside ht ha]
  · simp only [bufBase, reservedBase] at ha
    have hread := h (a - 0x10) (by omega)
    rwa [bufRead, bufRead, bufBase, Nat.add_sub_cancel' (by omega)] at hread

/-! ### The classifiers' windows -/

section

variable {p : Params} (d : Ticks)

/-- R104: the data windows are disjoint and ordered, and the gaps between them are ambiguous. -/
theorem classifyData_iff (h : p.WindowsOrdered) :
    (classifyData p d = .glitch ↔ d.toNat < p.rxShortMin) ∧
    (classifyData p d = .short ↔ p.rxShortMin ≤ d.toNat ∧ d.toNat < p.rxShortLim) ∧
    (classifyData p d = .long ↔ p.rxLongMin ≤ d.toNat ∧ d.toNat < p.rxLongLim) ∧
    (classifyData p d = .eod ↔ p.rxEodMin ≤ d.toNat) ∧
    (classifyData p d = .ambig ↔
      (p.rxShortLim ≤ d.toNat ∧ d.toNat < p.rxLongMin) ∨ (p.rxLongLim ≤ d.toNat ∧ d.toNat < p.rxEodMin)) := by
  unfold classifyData
  split_ifs
  all_goals
    simp only [true_iff, false_iff]
    omega

/-- R105. -/
theorem classifySof_iff (h : p.SofOrdered) :
    (classifySof p d = .tooShort ↔ d.toNat < p.rxSofMin) ∧
    (classifySof p d = .sof ↔ p.rxSofMin ≤ d.toNat ∧ d.toNat ≤ p.rxSofMax) ∧
    (classifySof p d = .tooLong ↔ p.rxSofMax < d.toNat) := by
  unfold classifySof
  split_ifs
  all_goals
    simp only [true_iff, false_iff]
    omega

/-- R106. -/
theorem classifyBoundary_iff (h : p.WindowsOrdered) :
    (classifyBoundary p d = .invalid ↔ d.toNat < p.rxEodMin) ∧
    (classifyBoundary p d = .eod ↔ p.rxEodMin ≤ d.toNat ∧ d.toNat < p.rxEofMin) ∧
    (classifyBoundary p d = .eof ↔ p.rxEofMin ≤ d.toNat ∧ d.toNat < p.rxIfsMin) ∧
    (classifyBoundary p d = .ifs ↔ p.rxIfsMin ≤ d.toNat) := by
  unfold classifyBoundary
  split_ifs
  all_goals
    simp only [true_iff, false_iff]
    omega

/-- The codes of the four boundary categories rise with the duration (30_encoding.md R86). -/
theorem classifyBoundary_code :
    (classifyBoundary p d).code.toNat =
      if d.toNat < p.rxEodMin then 0 else if d.toNat < p.rxEofMin then 5 else if d.toNat < p.rxIfsMin then 6 else 7 := by
  unfold classifyBoundary
  split_ifs <;> rfl

end

/-! ### Eight bits make a byte -/

/-- Bits that stay inside a byte only shift in and count. -/
theorem foldl_accumulate (bs : List Bool) {s : State} (h : s.bits.toNat + bs.length < 8) :
    bs.foldl (fun u b => accumulate b u) s =
      { s with shift := bs.foldl shiftIn s.shift, bits := BitVec.ofNat 3 (s.bits.toNat + bs.length) } := by
  induction bs generalizing s with
  | nil => simp
  | cons b bs ih =>
    simp only [List.length_cons] at h
    have hinside : s.bits.toNat < 7 := by omega
    have hnext := bits_succ_toNat hinside
    rw [List.foldl_cons, accumulate_of_lt b hinside, ih (by simp only [hnext]; omega)]
    simp only [hnext, List.foldl_cons, List.length_cons, Nat.add_assoc, Nat.add_comm 1]

/-- A byte's worth of bits from BITS = 0: the last one stores what all of them shift in. -/
theorem foldl_accumulate_byte {s : State} (bs : List Bool) (b : Bool) (hwf : Memory.wf s.buf = true)
    (hbytes : s.bytes.toNat < 12) (hbits : s.bits.toNat = 0) (hlen : bs.length = 7) :
    ((bs ++ [b]).foldl (fun u c => accumulate c u) s).bits = 0#3 ∧
    ((bs ++ [b]).foldl (fun u c => accumulate c u) s).bytes.toNat = s.bytes.toNat + 1 ∧
    ∀ j, bufRead ((bs ++ [b]).foldl (fun u c => accumulate c u) s) j =
      if j = s.bytes.toNat then (bs ++ [b]).foldl shiftIn s.shift else bufRead s j := by
  have hseven := foldl_accumulate bs (s := s) (by omega)
  simp only [List.foldl_concat]
  generalize bs.foldl (fun u c => accumulate c u) s = u at hseven
  have hlast : u.bits.toNat = 7 := by simp [hseven, hbits, hlen]
  have hcount : u.bytes = s.bytes := by rw [hseven]
  have hbuf : u.buf = s.buf := by rw [hseven]
  have hshift : u.shift = bs.foldl shiftIn s.shift := by rw [hseven]
  refine ⟨?_, ?_, fun j => ?_⟩
  · rw [accumulate_of_eq b hlast]
  · rw [accumulate_of_eq b hlast, ← hcount]
    exact bytes_succ_toNat (by rw [hcount]; omega)
  · rw [bufRead_accumulate_of_eq b (by rwa [hbuf]) (by rwa [hcount]) hlast, hcount, hshift, bufRead_congr hbuf]

/-- Each bit shifted in doubles what was there; eight of them leave nothing of the old SHIFT. -/
theorem foldl_shiftIn_toNat (v : Byte) (b1 b2 b3 b4 b5 b6 b7 b8 : Bool) :
    ([b1, b2, b3, b4, b5, b6, b7, b8].foldl shiftIn v).toNat =
      b1.toNat * 128 + b2.toNat * 64 + b3.toNat * 32 + b4.toNat * 16 + b5.toNat * 8 + b6.toNat * 4 + b7.toNat * 2 +
        b8.toNat := by
  have h1 := Bool.toNat_le b1
  have h2 := Bool.toNat_le b2
  have h3 := Bool.toNat_le b3
  have h4 := Bool.toNat_le b4
  have h5 := Bool.toNat_le b5
  have h6 := Bool.toNat_le b6
  have h7 := Bool.toNat_le b7
  have h8 := Bool.toNat_le b8
  simp only [List.foldl_cons, List.foldl_nil, shiftIn_eq, BitVec.toNat_ofNat]
  omega

/-! ### A data bit taken -/

/-- A bit taken into the frame shifts in and raises no error, whether or not it fills the frame. -/
theorem rxFrameFull_bit (lv : Level) (b : Bool) {s : State} (hresult : s.result = .none) :
    (rxFrameFull { accumulate b s with last := lv, symTmr := 1#16 }).result ≠ .busErr ∧
    (rxFrameFull { accumulate b s with last := lv, symTmr := 1#16 }).shift = shiftIn s.shift b := by
  obtain hfull | hmore := rxFrameFull_cases { accumulate b s with last := lv, symTmr := 1#16 }
  · rw [hfull]
    simp
  · rw [hmore]
    simp [hresult]

end Sys2Proof.Machine
end

section
/-! The statements about encodings, the frame buffer, the classifiers and the accumulator. -/

open Sys2Proof Sys2Proof.Machine

/-- Settles O7: each map has the other as its inverse. -/
theorem decodeAndEncodeAgree : Obligations.DecodeAndEncodeAgree :=
  ⟨fun i _ => decode_encode i, fun _ _ => encode_of_decode, Reg.ofAddr_addr, Reg.addr_ofAddr, Reg.addr_buf_toNat⟩

/-- Settles O11: the write is the register's arm of `hostWrite`, and CLS_CFG reads back what it kept. -/
theorem unguardedWritesAreStored : Obligations.UnguardedWritesAreStored :=
  fun _ s v => ⟨rfl, rfl, rfl, rfl, writeClsCfg v s, rfl, rfl, clsCfgByte_writeClsCfg s v⟩

/-- Settles O20: the six registers are the fields that `finish` names. -/
theorem finishWritesExactlyItsRegisters : Obligations.FinishWritesExactlyItsRegisters := fun _ _ _ => rfl

/-- Settles O18: read after write, the canonical form, and that it is determined by the twelve bytes. -/
theorem frameBufferReadsBackAndStaysCanonical : Obligations.FrameBufferReadsBackAndStaysCanonical := by
  refine ⟨fun s i j v hwf hi => ⟨bufWrite_wf s i v hwf, ?_⟩, fun s t => buf_eq_of_bufRead_eq⟩
  rw [bufRead_bufWrite s i j v hwf]
  simp only [hi, and_true]

/-- Settles O25: the windows give every outcome, and the order of two durations the rest. -/
theorem classifiersPartitionTheTickAxis : Obligations.ClassifiersPartitionTheTickAxis := by
  intro p hlegal d d' hle
  obtain ⟨hwindows, hsof, _⟩ := hlegal
  obtain ⟨hglitch, hshort, hlong, heod, hambig⟩ := classifyData_iff d hwindows
  obtain ⟨hglitch', hshort', _, heod', _⟩ := classifyData_iff d' hwindows
  obtain ⟨htooShort, hinSof, htooLong⟩ := classifySof_iff d hsof
  obtain ⟨htooShort', _, htooLong'⟩ := classifySof_iff d' hsof
  obtain ⟨hinvalid, hbeod, hbeof, hbifs⟩ := classifyBoundary_iff d hwindows
  refine ⟨hglitch, hshort, hlong, heod, hambig, htooShort, hinSof, htooLong, hinvalid, hbeod, hbeof, hbifs, ?_, ?_, ?_, ?_,
    ?_, ?_⟩
  · rw [hshort, Ne, hglitch']; omega
  · rw [hlong, Ne, Ne, hglitch', hshort']; omega
  · rw [heod, heod']; omega
  · rw [hinSof, Ne, htooShort']; omega
  · rw [htooLong, htooLong']; omega
  · rw [classifyBoundary_code, classifyBoundary_code]
    split_ifs <;> omega

/-- Settles O28: seven bits stay inside the byte, and the eighth stores it. -/
theorem eightBitsMakeAByte : Obligations.EightBitsMakeAByte := by
  intro s b1 b2 b3 b4 b5 b6 b7 b8 hwf hbytes hbits t
  obtain ⟨hbits', hbytes', hread⟩ :=
    foldl_accumulate_byte [b1, b2, b3, b4, b5, b6, b7] b8 hwf hbytes (by rw [hbits]; rfl) rfl
  refine ⟨hbits', hbytes', ?_, fun j hj => (hread j).trans (if_neg hj)⟩
  have hbyte := (hread s.bytes.toNat).trans (if_pos rfl)
  refine (congrArg BitVec.toNat hbyte).trans ?_
  exact foldl_shiftIn_toNat s.shift b1 b2 b3 b4 b5 b6 b7 b8

/-- Settles O43: both take the decision that the duration and polarity have in the DATA windows. -/
theorem classifyPredictsTheReceiver : Obligations.ClassifyPredictsTheReceiver := by
  intro s lv c hphase hlast hresult hparams hctx hpol hstrict hdur
  have hsym : dur c = s.symTmr := BitVec.eq_of_toNat_eq ((dur_nat c).trans hdur)
  have hclassify := exec_classify_data hctx (s := c) rfl
  rw [hparams, hsym, hpol, hstrict] at hclassify
  refine ⟨_, hclassify, ?_⟩
  rw [tickPhase_transition hphase hlast]
  obtain ⟨herr, h⟩ | ⟨hok, h⟩ := rxTransitionTick_cases lv (sampleLine s lv)
  · change (decodeSymbol s.params s.symTmr s.last s.strict).berr = true at herr
    rw [h]
    exact ⟨iff_of_true rfl herr, fun hno => nomatch hno.symm.trans herr⟩
  · change (decodeSymbol s.params s.symTmr s.last s.strict).berr = false at hok
    rw [h, hok]
    obtain ⟨hresult', hshift⟩ :=
      rxFrameFull_bit lv (decodeSymbol s.params s.symTmr s.last s.strict).bit (s := sampleLine s lv) hresult
    exact ⟨iff_of_false hresult' (by simp), fun _ => hshift.trans (shiftIn_eq _ _)⟩

end

section
/-! PROOFS. The function `crc8` and the command sequences that compute it (44_crc8.md R210 to R216). -/

namespace Sys2Proof.Machine

/-! ### The bit step as a shift register, and its linearity -/

/-- R216: a shift left, and the polynomial when the bit that leaves and the bit that enters differ. -/
theorem crcstep_shiftRegister : ∀ (acc : Byte) (b : Bool),
    crcstep acc b = (acc <<< 1) ^^^ (if (acc.getLsbD 7 ^^ b) = true then 0x1D#8 else 0x00#8) := by decide

/-- The feedback of the shift register is additive in the bit that decides it. -/
theorem feedback_xor (x y : Bool) :
    (if (x ^^ y) = true then 0x1D#8 else 0x00#8) =
      (if x = true then 0x1D#8 else 0x00#8) ^^^ (if y = true then 0x1D#8 else 0x00#8) := by
  revert x y; decide

theorem crcstep_xor (a b : Byte) (x y : Bool) : crcstep (a ^^^ b) (x ^^ y) = crcstep a x ^^^ crcstep b y := by
  have hswap : ((a.getLsbD 7 ^^ b.getLsbD 7) ^^ (x ^^ y)) = ((a.getLsbD 7 ^^ x) ^^ (b.getLsbD 7 ^^ y)) := by
    rw [Bool.xor_assoc, Bool.xor_assoc, Bool.xor_left_comm (b.getLsbD 7)]
  simp only [crcstep_shiftRegister, BitVec.getLsbD_xor, BitVec.shiftLeft_xor_distrib, hswap, feedback_xor]
  ac_rfl

/-- A fold of bit steps is linear in the accumulator and the byte together. -/
theorem foldl_crcstep_xor (is : List Nat) (a b v w : Byte) :
    is.foldl (fun c i => crcstep c ((v ^^^ w).getLsbD i)) (a ^^^ b) =
      is.foldl (fun c i => crcstep c (v.getLsbD i)) a ^^^ is.foldl (fun c i => crcstep c (w.getLsbD i)) b := by
  induction is generalizing a b with
  | nil => rfl
  | cons i is ih => rw [List.foldl_cons, BitVec.getLsbD_xor, crcstep_xor, ih, List.foldl_cons, List.foldl_cons]

theorem crcbyte_xor (a b v w : Byte) : crcbyte (a ^^^ b) (v ^^^ w) = crcbyte a v ^^^ crcbyte b w :=
  foldl_crcstep_xor _ a b v w

/-! ### What one byte does to the accumulator -/

/-- S6.4: a byte equal to the complement of the accumulator leads to the complement of the residue. -/
theorem crcbyte_complement : ∀ a : Byte, ~~~ crcbyte a (~~~a) = 0x3B#8 := by decide

theorem eq_zero_of_crcbyte_zero_right : ∀ d : Byte, crcbyte d 0x00#8 = 0x00#8 → d = 0x00#8 := by decide

theorem eq_zero_of_crcbyte_zero_left : ∀ e : Byte, crcbyte 0x00#8 e = 0x00#8 → e = 0x00#8 := by decide

theorem crcbyte_xor_eq_zero {a b v w : Byte} (h : crcbyte a v = crcbyte b w) :
    crcbyte (a ^^^ b) (v ^^^ w) = 0x00#8 := by
  rw [crcbyte_xor, h, BitVec.xor_self]

/-- Different accumulators stay different under one byte. -/
theorem crcbyte_injective_left (v : Byte) {a b : Byte} (h : crcbyte a v = crcbyte b v) : a = b := by
  have hzero := crcbyte_xor_eq_zero h
  rw [BitVec.xor_self] at hzero
  exact BitVec.xor_eq_zero_iff.mp (eq_zero_of_crcbyte_zero_right _ hzero)

/-- Different bytes lead one accumulator to different values. -/
theorem crcbyte_injective_right (a : Byte) {v w : Byte} (h : crcbyte a v = crcbyte a w) : v = w := by
  have hzero := crcbyte_xor_eq_zero h
  rw [BitVec.xor_self] at hzero
  exact BitVec.xor_eq_zero_iff.mp (eq_zero_of_crcbyte_zero_left _ hzero)

theorem foldl_crcbyte_injective (m : List Byte) {a b : Byte} (h : m.foldl crcbyte a = m.foldl crcbyte b) : a = b := by
  induction m generalizing a b with
  | nil => exact h
  | cons v m ih => exact crcbyte_injective_left v (ih h)

/-! ### The command sequences -/

/-- The bit written to CRC_DATA[0] is the bit that CRC_BIT takes. -/
theorem getLsbD_zero_ite (b : Bool) : (if b = true then 0x01#8 else 0x00#8 : Byte).getLsbD 0 = b := by
  cases b <;> rfl

/-- One byte fed to the CRC unit: a write of CRC_DATA, then CRC_BYTE. -/
def crcFeed (t : State) (b : Byte) : State :=
  let u := nextOr t (hostWrite t 0x08#5 b t)
  nextOr u (exec .crcByte u)

/-- One bit of `v` fed to the CRC unit: a write of CRC_DATA, then CRC_BIT. -/
def crcFeedBit (v : Byte) (t : State) (i : Nat) : State :=
  let u := nextOr t (hostWrite t 0x08#5 (if v.getLsbD i = true then 0x01#8 else 0x00#8) t)
  nextOr u (exec .crcBit u)

theorem crcFeed_eq (t : State) (b : Byte) : crcFeed t b = { t with crc := crcbyte t.crc b, crcData := b } := rfl

theorem crcFeedBit_eq (v : Byte) (t : State) (i : Nat) :
    crcFeedBit v t i =
      { t with
        crc := crcstep t.crc (v.getLsbD i), crcData := if v.getLsbD i = true then 0x01#8 else 0x00#8 } := by
  have h : crcFeedBit v t i =
      { t with
        crc := crcstep t.crc ((if v.getLsbD i = true then 0x01#8 else 0x00#8 : Byte).getLsbD 0)
        crcData := if v.getLsbD i = true then 0x01#8 else 0x00#8 } := rfl
  rw [h, getLsbD_zero_ite]

/-- Bits fed one by one fold the bit step; CRC_DATA apart, nothing else changes. -/
theorem foldl_crcFeedBit (v d : Byte) (is : List Nat) (t : State) :
    { is.foldl (crcFeedBit v) t with crcData := d } =
      { t with crc := is.foldl (fun c i => crcstep c (v.getLsbD i)) t.crc, crcData := d } := by
  induction is generalizing t with
  | nil => rfl
  | cons i is ih => rw [List.foldl_cons, ih, crcFeedBit_eq, List.foldl_cons]

/-- Bytes fed one by one fold `crcbyte`, and CRC_DATA keeps the last. -/
theorem foldl_crcFeed (m : List Byte) (t : State) :
    m.foldl crcFeed t = { t with crc := m.foldl crcbyte t.crc, crcData := m.getLastD t.crcData } := by
  induction m generalizing t with
  | nil => rfl
  | cons v m ih => rw [List.foldl_cons, ih, crcFeed_eq, List.foldl_cons, List.getLastD_cons]

end Sys2Proof.Machine
end

section
/-! The statements about CRC_BIT, CRC_BYTE and `crc8`. -/

open Sys2Proof Sys2Proof.Machine

/-- Settles O48: CRC_BIT's bit step in its shift-register form. -/
theorem crcBitIsTheShiftRegister : Obligations.CrcBitIsTheShiftRegister := fun s => by
  rw [exec_crcBit, crcstep_shiftRegister]

/-- Settles O49: both sides fold the bit step over the bits of CRC_DATA. -/
theorem crcByteEqualsEightCrcBits : Obligations.CrcByteEqualsEightCrcBits := fun s =>
  congrArg Host.Outcome.next (foldl_crcFeedBit s.crcData s.crcData [7, 6, 5, 4, 3, 2, 1, 0] s).symm

/-- Settles O50: the sequence folds `crcbyte` from CRC_INIT's value. -/
theorem crcCommandsComputeCrc8 : Obligations.CrcCommandsComputeCrc8 := by
  intro m s feed t
  have ht : t = { s with crc := m.foldl crcbyte 0xFF#8, crcData := m.getLastD s.crcData } :=
    foldl_crcFeed m { s with crc := 0xFF#8 }
  rw [ht]
  exact ⟨rfl, rfl⟩

/-- Settles O51: the appended byte is the complement of the accumulator it meets. -/
theorem appendedCrcGivesTheResidue : Obligations.AppendedCrcGivesTheResidue := fun m => by
  rw [crc8, List.foldl_concat]
  exact crcbyte_complement _

/-- Settles O52: the changed byte separates the accumulators, and the bytes after it keep them apart. -/
theorem crcDetectsEveryOneByteChange : Obligations.CrcDetectsEveryOneByteChange := by
  intro before after v w hne hcrc
  refine hne (crcbyte_injective_right (before.foldl crcbyte 0xFF#8) (foldl_crcbyte_injective after ?_))
  simpa only [crc8, BitVec.not_inj, List.foldl_append, List.foldl_cons] using hcrc

end
